-- ==== Sys2Proof/Word.lean ====
section
/-! DEFINITION. The two word types of the core (00_scope.md R10): the byte `u8` and the nibble `u4`.
Bit 0 is the least significant bit; all values are unsigned. -/

namespace Sys2Proof

/-- `u8`: a character, a keycode, a frame byte, a bus byte, a controller byte. -/
abbrev Byte := BitVec 8

/-- `u4`: half of a controller byte. -/
abbrev Nibble := BitVec 4

end Sys2Proof
end

