-- ==== Sys2Proof/Config.lean ====
section
/-! DEFINITION. What the spec leaves to construction and to the environment (00_scope.md R8, 93 U13 to U15).
Every constant here is opaque: no proof can learn its value, so a claim that holds, holds for every value. -/

namespace Sys2Proof

/-- `BUS_ADDR`, OPEN (D13): the device address given at construction. Log 8. -/
opaque Config.busAddr : BitVec 7

/-- By how many nanoseconds `T_PULSE` exceeds its least value of 450 ns (D23). Log 8. -/
opaque Config.pulseMargin : Nat

/-- By how many nanoseconds `T_SETTLE` exceeds its least value of 600 µs (D23). Log 8. -/
opaque Config.settleMargin : Nat

/-- `CURRENCY_BITMAP`, OPEN (D26): the 8 bytes given at construction. Log 8. -/
opaque Config.currencyBitmap : Vector Byte 8

/-- `NF_LINE1`, OPEN (D26). Log 8. -/
opaque Config.nfLine1 : List Byte

/-- `NF_LINE2`, OPEN (D26). Log 8. -/
opaque Config.nfLine2 : List Byte

/-- The environment's answer (success or failure) to the bus write with this running number, where the queue of
answers held in the state does not give it: a free value, one fresh choice per write (60_exceptions.md R188, U14).
Log 5. -/
opaque Config.busAnswer : Nat → Bool

end Sys2Proof
end

