-- ==== Sys2Proof/Syntax.lean ====
section
/-! DEFINITION. The syntax: one constructor per row of spec/opcode_table.json (87 rows).
Rows of format OP are the requests a host makes (30_encoding.md R81). Rows of the other formats are words that the
operations consume or emit; the model executes each as the smallest operation that does so (Log 2).
Operands are as wide as a host interface can express them, so that a request that breaks a precondition
(60_exceptions.md R174) is a term, and is refused when it is executed. -/

namespace Sys2Proof

/-- The column `format` of the opcode table (30_encoding.md R84). -/
inductive Format where
  | op | keycode | cmd | chr | bus
  deriving DecidableEq, Repr

/-- The mode bit of a bus byte (30_encoding.md R64): Command = 0, Character = 1. Not a mode of the core (R180). -/
inductive Mode where
  | command | character
  deriving DecidableEq, Repr

/-- WRITE_STRING's line operand (30_encoding.md R74): an index 0 to 3, or an address byte named directly. -/
inductive LineSel where
  | index (n : Byte)
  | address (b : Byte)
  deriving DecidableEq, Repr

/-- The frame a KEYCODE row is executed in (Log 2): the keycode stands at byte `index`, 0 to 7; `shifted` says that byte 0 is
the shift marker; every other byte is 0x00. -/
structure KeyPlace where
  index   : BitVec 3
  shifted : Bool
  deriving DecidableEq, Repr

/-- The instructions. -/
inductive Instr where
  | lookup (k : Byte)
  | decodeFrame (frame : List Byte)
  | decodeScan (bytes : List Byte)
  | writeNibble (n : Byte) (mode : Mode)
  | writeByte (v : Byte) (mode : Mode)
  | init
  | writeString (text : List Byte) (line : LineSel)
  | defineGlyph (slot : Byte) (bitmap : List Byte)
  | showProduct (title price : List Byte)
  | showNotFound
  | opUnassignedA
  | opUnassignedB
  | opUnassignedC
  | opUnassignedD
  | opUnassignedE
  | opUnassignedF
  | key04 (pos : KeyPlace)
  | key05 (pos : KeyPlace)
  | key06 (pos : KeyPlace)
  | key07 (pos : KeyPlace)
  | key08 (pos : KeyPlace)
  | key09 (pos : KeyPlace)
  | key0A (pos : KeyPlace)
  | key0B (pos : KeyPlace)
  | key0C (pos : KeyPlace)
  | key0D (pos : KeyPlace)
  | key0E (pos : KeyPlace)
  | key0F (pos : KeyPlace)
  | key10 (pos : KeyPlace)
  | key11 (pos : KeyPlace)
  | key12 (pos : KeyPlace)
  | key13 (pos : KeyPlace)
  | key14 (pos : KeyPlace)
  | key15 (pos : KeyPlace)
  | key16 (pos : KeyPlace)
  | key17 (pos : KeyPlace)
  | key18 (pos : KeyPlace)
  | key19 (pos : KeyPlace)
  | key1A (pos : KeyPlace)
  | key1B (pos : KeyPlace)
  | key1C (pos : KeyPlace)
  | key1D (pos : KeyPlace)
  | key1E (pos : KeyPlace)
  | key1F (pos : KeyPlace)
  | key20 (pos : KeyPlace)
  | key21 (pos : KeyPlace)
  | key22 (pos : KeyPlace)
  | key23 (pos : KeyPlace)
  | key24 (pos : KeyPlace)
  | key25 (pos : KeyPlace)
  | key26 (pos : KeyPlace)
  | key27 (pos : KeyPlace)
  | key28 (pos : KeyPlace)
  | key29 (pos : KeyPlace)
  | key2A (pos : KeyPlace)
  | key2B (pos : KeyPlace)
  | key2C (pos : KeyPlace)
  | key2D (pos : KeyPlace)
  | key2E (pos : KeyPlace)
  | key2F (pos : KeyPlace)
  | key30 (pos : KeyPlace)
  | key31 (pos : KeyPlace)
  | key32 (pos : KeyPlace)
  | key33 (pos : KeyPlace)
  | key34 (pos : KeyPlace)
  | key35 (pos : KeyPlace)
  | key36 (pos : KeyPlace)
  | key37 (pos : KeyPlace)
  | key38 (pos : KeyPlace)
  | key64 (pos : KeyPlace)
  | keyNoKey (pos : KeyPlace)
  | keyShiftMarker (pos : KeyPlace)
  | keyUnknown (k : Byte) (pos : KeyPlace)
  | init33
  | init32
  | init06
  | init0C
  | init28
  | init01
  | lineAddr0
  | lineAddr1
  | lineAddr2
  | lineAddr3
  | cgramAddr (s : BitVec 3)
  | char (c : Byte)
  | busSetup (n : Nibble) (backlight : Bool) (mode : Mode)
  | busStrobe (n : Nibble) (backlight : Bool) (mode : Mode)
  deriving DecidableEq, Repr

end Sys2Proof
end

