-- ==== Sys2Proof/WellFormed.lean ====
section
/-! DEFINITION. Well-formedness of a request: the preconditions of 60_exceptions.md R174 (each with its reason's name)
and that a KEY_UNKNOWN row stands for a keycode that no other KEYCODE row has. An ill-formed OP request can still be
written down and executed: it is refused with its reason (`Machine/Operands.lean`, `Instr.precondition`). -/

namespace Sys2Proof

/-- The byte values that have a KEYCODE row of their own: 0x00, 0x02 and the 54 keys of SCT_DEFAULT. -/
def keycodeRowValues : List Byte :=
  [0x00, 0x02] ++
  [0x04, 0x05, 0x06, 0x07, 0x08, 0x09, 0x0A, 0x0B, 0x0C, 0x0D, 0x0E, 0x0F, 0x10, 0x11] ++
  [0x12, 0x13, 0x14, 0x15, 0x16, 0x17, 0x18, 0x19, 0x1A, 0x1B, 0x1C, 0x1D, 0x1E, 0x1F] ++
  [0x20, 0x21, 0x22, 0x23, 0x24, 0x25, 0x26, 0x27, 0x28, 0x29, 0x2A, 0x2B, 0x2C, 0x2D] ++
  [0x2E, 0x2F, 0x30, 0x31, 0x32, 0x33, 0x34, 0x35, 0x36, 0x37, 0x38, 0x64]

/-- BadLength (R174): the input length is a multiple of 8. -/
def lengthOk (bytes : List Byte) : Bool := bytes.length % 8 == 0

/-- BadFrame and BadBitmap (R174): exactly 8 bytes. -/
def eightBytes (bytes : List Byte) : Bool := bytes.length == 8

/-- BadLine (R174, 30_encoding.md R74): an index 0 to 3 or one of the four address bytes. -/
def lineOk : LineSel → Bool
  | .index n => n.toNat < 4
  | .address b => [0x80, 0xC0, 0x94, 0xD4].contains b

/-- BadSlot (R174): slot 0 to 7. -/
def slotOk (slot : Byte) : Bool := slot.toNat < 8

/-- BadNibble (R174): 0 to 15. -/
def nibbleOk (n : Byte) : Bool := n.toNat < 16

/-- KEY_UNKNOWN is "any value other than 0x00, 0x02 and the 54 keys" (opcode table). -/
def unknownOk (k : Byte) : Bool := !keycodeRowValues.contains k

/-- The canonical terms: those that some word decodes to. Only KEY_UNKNOWN restricts its operand. -/
def Instr.canonical : Instr → Bool
  | .keyUnknown k _ => unknownOk k
  | _ => true

/-- Well-formed: canonical, an assigned OP code (BadOp), and every precondition of R174 on the operands met. -/
def Instr.wf (i : Instr) : Bool :=
  i.canonical && match i with
    | .decodeFrame f => eightBytes f
    | .decodeScan bs => lengthOk bs
    | .writeNibble n _ => nibbleOk n
    | .writeString _ line => lineOk line
    | .defineGlyph slot bm => slotOk slot && eightBytes bm
    | .opUnassignedA | .opUnassignedB | .opUnassignedC => false
    | .opUnassignedD | .opUnassignedE | .opUnassignedF => false
    | _ => true

end Sys2Proof
end

