-- ==== Sys2Proof/Decode.lean ====
section
/-! DEFINITION. The decoder and, after it, the encoder. The code words (OP code, keycode, command byte, character byte,
bus byte) are the spec's (30_encoding.md R61, R64, R68 to R71, R81 and the opcode table). How the operands of a request
follow its code word is the MODEL'S OWN byte layout, since the spec defines none (30_encoding.md R81; Log 1):

* a byte operand is one byte; a mode is one byte 0 or 1; a line operand is a byte 0 (index) or 1 (address), then its byte;
* a sequence is, for each element, the byte 1 and the element, and at its end the byte 0;
* a block of normally 8 bytes (frame, bitmap) is the byte 0 and the 8 bytes; a block of another length, which the core
  refuses, is the byte 1 and a sequence;
* a KEYCODE word is followed by one byte: the position 0 to 7 in bits 2 to 0, the shift marker in bit 3 (Log 2).

Every canonical instruction has exactly one encoding: a block of 8 bytes written as a sequence is an error. -/

namespace Sys2Proof

/-- Why bytes are no instruction. -/
inductive DecodeError where
  | truncated                              -- the bytes end inside a request
  | trailingBytes                          -- bytes are left over after the request
  | badTag (b : Byte)                      -- a layout byte other than 0 and 1
  | badPosition (b : Byte)                 -- a frame position byte above 15
  | longBlock                              -- a block of 8 bytes written as a sequence
  | noSuchRow (f : Format) (word : Byte)   -- no row of this format matches the word
  deriving DecidableEq, Repr

/-- What a part of the decoder gives: a value and the bytes after it. -/
abbrev Parsed (α : Type) := Except DecodeError (α × List Byte)

def takeByte : List Byte → Parsed Byte
  | [] => .error .truncated
  | b :: rest => .ok (b, rest)

/-- A layout byte: 0 is false, 1 is true, nothing else is allowed. -/
def takeTag : List Byte → Parsed Bool
  | [] => .error .truncated
  | b :: rest =>
    if b = 0x00#8 then .ok (false, rest) else if b = 0x01#8 then .ok (true, rest) else .error (.badTag b)

def takeMode (bs : List Byte) : Parsed Mode :=
  match takeTag bs with
  | .ok (t, rest) => .ok (if t then .character else .command, rest)
  | .error e => .error e

/-- A sequence: 1, element, 1, element, ..., 0. -/
def takeSeq : List Byte → Parsed (List Byte)
  | [] => .error .truncated
  | tag :: rest =>
    if tag = 0x00#8 then .ok ([], rest)
    else if tag = 0x01#8 then
      match rest with
      | [] => .error .truncated
      | b :: rest' =>
        match takeSeq rest' with
        | .ok (l, rest'') => .ok (b :: l, rest'')
        | .error e => .error e
    else .error (.badTag tag)

/-- A block: 0 and 8 bytes, or 1 and a sequence of another length. -/
def takeBlock (bs : List Byte) : Parsed (List Byte) :=
  match takeTag bs with
  | .error e => .error e
  | .ok (true, rest) =>
    match takeSeq rest with
    | .error e => .error e
    | .ok (l, rest') => if l.length = 8 then .error .longBlock else .ok (l, rest')
  | .ok (false, a :: b :: c :: d :: e :: f :: g :: h :: rest) => .ok ([a, b, c, d, e, f, g, h], rest)
  | .ok (false, _) => .error .truncated

def takeLine (bs : List Byte) : Parsed LineSel :=
  match takeTag bs with
  | .error e => .error e
  | .ok (t, rest) =>
    match takeByte rest with
    | .error e => .error e
    | .ok (b, rest') => .ok (if t then .address b else .index b, rest')

/-- A frame position 0 to 7, and whether byte 0 is the shift marker. -/
def takePosition (bs : List Byte) : Parsed KeyPlace :=
  match takeByte bs with
  | .error e => .error e
  | .ok (b, rest) =>
    if b.toNat < 16 then .ok (⟨b.setWidth 3, b.getLsbD 3⟩, rest) else .error (.badPosition b)

/-- Two operands, one after the other. -/
def takeTwo {α β : Type} (first : List Byte → Parsed α) (second : List Byte → Parsed β) (bs : List Byte) :
    Parsed (α × β) :=
  match first bs with
  | .error e => .error e
  | .ok (a, rest) =>
    match second rest with
    | .error e => .error e
    | .ok (b, rest') => .ok ((a, b), rest')

/-- An operand, made into an instruction. -/
def operandOf {α : Type} (f : α → Instr) : Parsed α → Parsed Instr
  | .ok (a, rest) => .ok (f a, rest)
  | .error e => .error e

/-- Format OP: the 4-bit code, alone in its byte (30_encoding.md R81). -/
def decodeOp (op : Byte) (bs : List Byte) : Parsed Instr :=
  match op.toNat with
  | 0x0 => operandOf .lookup (takeByte bs)
  | 0x1 => operandOf .decodeFrame (takeBlock bs)
  | 0x2 => operandOf .decodeScan (takeSeq bs)
  | 0x3 => operandOf (fun x => .writeNibble x.1 x.2) (takeTwo takeByte takeMode bs)
  | 0x4 => operandOf (fun x => .writeByte x.1 x.2) (takeTwo takeByte takeMode bs)
  | 0x5 => .ok (.init, bs)
  | 0x6 => operandOf (fun x => .writeString x.2 x.1) (takeTwo takeLine takeSeq bs)
  | 0x7 => operandOf (fun x => .defineGlyph x.1 x.2) (takeTwo takeByte takeBlock bs)
  | 0x8 => operandOf (fun x => .showProduct x.1 x.2) (takeTwo takeSeq takeSeq bs)
  | 0x9 => .ok (.showNotFound, bs)
  | 0xA => .ok (.opUnassignedA, bs)
  | 0xB => .ok (.opUnassignedB, bs)
  | 0xC => .ok (.opUnassignedC, bs)
  | 0xD => .ok (.opUnassignedD, bs)
  | 0xE => .ok (.opUnassignedE, bs)
  | 0xF => .ok (.opUnassignedF, bs)
  | _ => .error (.noSuchRow .op op)

/-- Format KEYCODE: the row of a keycode; every value without a row of its own is KEY_UNKNOWN (30_encoding.md R77). -/
def keycodeRow (k : Byte) (pos : KeyPlace) : Instr :=
  match k.toNat with
  | 0x00 => .keyNoKey pos
  | 0x02 => .keyShiftMarker pos
  | 0x04 => .key04 pos
  | 0x05 => .key05 pos
  | 0x06 => .key06 pos
  | 0x07 => .key07 pos
  | 0x08 => .key08 pos
  | 0x09 => .key09 pos
  | 0x0A => .key0A pos
  | 0x0B => .key0B pos
  | 0x0C => .key0C pos
  | 0x0D => .key0D pos
  | 0x0E => .key0E pos
  | 0x0F => .key0F pos
  | 0x10 => .key10 pos
  | 0x11 => .key11 pos
  | 0x12 => .key12 pos
  | 0x13 => .key13 pos
  | 0x14 => .key14 pos
  | 0x15 => .key15 pos
  | 0x16 => .key16 pos
  | 0x17 => .key17 pos
  | 0x18 => .key18 pos
  | 0x19 => .key19 pos
  | 0x1A => .key1A pos
  | 0x1B => .key1B pos
  | 0x1C => .key1C pos
  | 0x1D => .key1D pos
  | 0x1E => .key1E pos
  | 0x1F => .key1F pos
  | 0x20 => .key20 pos
  | 0x21 => .key21 pos
  | 0x22 => .key22 pos
  | 0x23 => .key23 pos
  | 0x24 => .key24 pos
  | 0x25 => .key25 pos
  | 0x26 => .key26 pos
  | 0x27 => .key27 pos
  | 0x28 => .key28 pos
  | 0x29 => .key29 pos
  | 0x2A => .key2A pos
  | 0x2B => .key2B pos
  | 0x2C => .key2C pos
  | 0x2D => .key2D pos
  | 0x2E => .key2E pos
  | 0x2F => .key2F pos
  | 0x30 => .key30 pos
  | 0x31 => .key31 pos
  | 0x32 => .key32 pos
  | 0x33 => .key33 pos
  | 0x34 => .key34 pos
  | 0x35 => .key35 pos
  | 0x36 => .key36 pos
  | 0x37 => .key37 pos
  | 0x38 => .key38 pos
  | 0x64 => .key64 pos
  | _ => .keyUnknown k pos

/-- Format CMD: the controller command bytes the core emits (30_encoding.md R68 to R70). -/
def commandRow (c : Byte) : Option Instr :=
  match c.toNat with
  | 0x33 => some .init33
  | 0x32 => some .init32
  | 0x06 => some .init06
  | 0x0C => some .init0C
  | 0x28 => some .init28
  | 0x01 => some .init01
  | 0x80 => some .lineAddr0
  | 0xC0 => some .lineAddr1
  | 0x94 => some .lineAddr2
  | 0xD4 => some .lineAddr3
  | _ => if c &&& 0xC7#8 = 0x40#8 then some (.cgramAddr (c.extractLsb' 3 3)) else none

/-- Format BUS: `nnnnbe0m` (30_encoding.md R64); bit 1 is 0 in every bus byte. -/
def busRow (w : Byte) : Option Instr :=
  let n : Nibble := w.extractLsb' 4 4
  let mode : Mode := if w.getLsbD 0 then .character else .command
  if w.getLsbD 1 then none
  else if w.getLsbD 2 then some (.busStrobe n (w.getLsbD 3) mode)
  else some (.busSetup n (w.getLsbD 3) mode)

/-- A word that is a whole instruction, or the error that names it. -/
def wordOrError (f : Format) (w : Byte) (row : Option Instr) (bs : List Byte) : Parsed Instr :=
  match row with
  | some i => .ok (i, bs)
  | none => .error (.noSuchRow f w)

/-- The decoder: the first instruction in the bytes, and the bytes after it. -/
def decode (fmt : Format) : List Byte → Parsed Instr
  | [] => .error .truncated
  | w :: bs =>
    match fmt with
    | .op => decodeOp w bs
    | .keycode => operandOf (keycodeRow w) (takePosition bs)
    | .cmd => wordOrError .cmd w (commandRow w) bs
    | .chr => .ok (.char w, bs)
    | .bus => wordOrError .bus w (busRow w) bs

/-- A request is exactly one instruction: nothing may be left over. -/
def decodeWhole (fmt : Format) (bs : List Byte) : Except DecodeError Instr :=
  match decode fmt bs with
  | .ok (i, []) => .ok i
  | .ok (_, _ :: _) => .error .trailingBytes
  | .error e => .error e

/-! The encoder. -/

def modeByte : Mode → Byte
  | .command => 0x00
  | .character => 0x01

def seqBytes : List Byte → List Byte
  | [] => [0x00]
  | b :: l => 0x01 :: b :: seqBytes l

def blockBytes (l : List Byte) : List Byte :=
  if l.length = 8 then 0x00 :: l else 0x01 :: seqBytes l

def lineBytes : LineSel → List Byte
  | .index n => [0x00, n]
  | .address b => [0x01, b]

/-- A frame position and the shift marker in one byte. -/
def positionByte (pos : KeyPlace) : Byte :=
  pos.index.setWidth 8 ||| (if pos.shifted then 0x08#8 else 0x00#8)

/-- A KEYCODE word and its position byte. -/
def keyBytes (k : Byte) (pos : KeyPlace) : Format × List Byte :=
  (.keycode, [k, positionByte pos])

/-- A BUS word `nnnnbe0m` (30_encoding.md R64). -/
def busWord (n : Nibble) (backlight strobe : Bool) (mode : Mode) : Byte :=
  (n.setWidth 8 <<< 4) ||| (if backlight then 0x08 else 0) ||| (if strobe then 0x04 else 0) ||| modeByte mode

/-- The format and the bytes of an instruction. -/
def encode : Instr → Format × List Byte
  | .lookup k => (.op, [0x00, k])
  | .decodeFrame f => (.op, 0x01 :: blockBytes f)
  | .decodeScan bs => (.op, 0x02 :: seqBytes bs)
  | .writeNibble n m => (.op, [0x03, n, modeByte m])
  | .writeByte v m => (.op, [0x04, v, modeByte m])
  | .init => (.op, [0x05])
  | .writeString t l => (.op, 0x06 :: (lineBytes l ++ seqBytes t))
  | .defineGlyph s bm => (.op, 0x07 :: s :: blockBytes bm)
  | .showProduct t p => (.op, 0x08 :: (seqBytes t ++ seqBytes p))
  | .showNotFound => (.op, [0x09])
  | .opUnassignedA => (.op, [0x0A])
  | .opUnassignedB => (.op, [0x0B])
  | .opUnassignedC => (.op, [0x0C])
  | .opUnassignedD => (.op, [0x0D])
  | .opUnassignedE => (.op, [0x0E])
  | .opUnassignedF => (.op, [0x0F])
  | .key04 p => keyBytes 0x04 p
  | .key05 p => keyBytes 0x05 p
  | .key06 p => keyBytes 0x06 p
  | .key07 p => keyBytes 0x07 p
  | .key08 p => keyBytes 0x08 p
  | .key09 p => keyBytes 0x09 p
  | .key0A p => keyBytes 0x0A p
  | .key0B p => keyBytes 0x0B p
  | .key0C p => keyBytes 0x0C p
  | .key0D p => keyBytes 0x0D p
  | .key0E p => keyBytes 0x0E p
  | .key0F p => keyBytes 0x0F p
  | .key10 p => keyBytes 0x10 p
  | .key11 p => keyBytes 0x11 p
  | .key12 p => keyBytes 0x12 p
  | .key13 p => keyBytes 0x13 p
  | .key14 p => keyBytes 0x14 p
  | .key15 p => keyBytes 0x15 p
  | .key16 p => keyBytes 0x16 p
  | .key17 p => keyBytes 0x17 p
  | .key18 p => keyBytes 0x18 p
  | .key19 p => keyBytes 0x19 p
  | .key1A p => keyBytes 0x1A p
  | .key1B p => keyBytes 0x1B p
  | .key1C p => keyBytes 0x1C p
  | .key1D p => keyBytes 0x1D p
  | .key1E p => keyBytes 0x1E p
  | .key1F p => keyBytes 0x1F p
  | .key20 p => keyBytes 0x20 p
  | .key21 p => keyBytes 0x21 p
  | .key22 p => keyBytes 0x22 p
  | .key23 p => keyBytes 0x23 p
  | .key24 p => keyBytes 0x24 p
  | .key25 p => keyBytes 0x25 p
  | .key26 p => keyBytes 0x26 p
  | .key27 p => keyBytes 0x27 p
  | .key28 p => keyBytes 0x28 p
  | .key29 p => keyBytes 0x29 p
  | .key2A p => keyBytes 0x2A p
  | .key2B p => keyBytes 0x2B p
  | .key2C p => keyBytes 0x2C p
  | .key2D p => keyBytes 0x2D p
  | .key2E p => keyBytes 0x2E p
  | .key2F p => keyBytes 0x2F p
  | .key30 p => keyBytes 0x30 p
  | .key31 p => keyBytes 0x31 p
  | .key32 p => keyBytes 0x32 p
  | .key33 p => keyBytes 0x33 p
  | .key34 p => keyBytes 0x34 p
  | .key35 p => keyBytes 0x35 p
  | .key36 p => keyBytes 0x36 p
  | .key37 p => keyBytes 0x37 p
  | .key38 p => keyBytes 0x38 p
  | .key64 p => keyBytes 0x64 p
  | .keyNoKey p => keyBytes 0x00 p
  | .keyShiftMarker p => keyBytes 0x02 p
  | .keyUnknown k p => keyBytes k p
  | .init33 => (.cmd, [0x33])
  | .init32 => (.cmd, [0x32])
  | .init06 => (.cmd, [0x06])
  | .init0C => (.cmd, [0x0C])
  | .init28 => (.cmd, [0x28])
  | .init01 => (.cmd, [0x01])
  | .lineAddr0 => (.cmd, [0x80])
  | .lineAddr1 => (.cmd, [0xC0])
  | .lineAddr2 => (.cmd, [0x94])
  | .lineAddr3 => (.cmd, [0xD4])
  | .cgramAddr s => (.cmd, [0x40 ||| (s.setWidth 8 <<< 3)])
  | .char c => (.chr, [c])
  | .busSetup n b m => (.bus, [busWord n b false m])
  | .busStrobe n b m => (.bus, [busWord n b true m])

/-! The host's view: a table word without its format (Log 4). -/

/-- Which format a bare word is read in. The formats share the values 0x00 to 0xFF and only the port a word arrives on
tells them apart, so a bare word has to be given one: the most specific row first (OP, KEYCODE, CMD, BUS, CHR). -/
def formatOfWord (nbits w : Nat) : Format :=
  let b := BitVec.ofNat 8 w
  if nbits < 8 || w < 16 then .op
  else if keycodeRowValues.contains b then .keycode
  else if (commandRow b).isSome then .cmd
  else if (busRow b).isSome then .bus
  else .chr

/-- The bytes of a table word whose operand bytes are all 0: exactly as many zeros as its instruction takes. -/
def tableWordBytes (nbits w : Nat) : Format × List Byte :=
  let fmt := formatOfWord nbits w
  let padded := BitVec.ofNat 8 w :: List.replicate 16 0x00#8
  match decode fmt padded with
  | .ok (_, rest) => (fmt, padded.take (padded.length - rest.length))
  | .error _ => (fmt, [BitVec.ofNat 8 w])

/-- The instruction this decoder reads from a table word with zero operands; none where it refuses. -/
def decodeTableWord (nbits w : Nat) : Option Instr :=
  if w < 256 then
    match decodeWhole (tableWordBytes nbits w).1 (tableWordBytes nbits w).2 with
    | .ok i => some i
    | .error _ => none
  else none

end Sys2Proof
end

