-- ==== Sys2Proof/Machine/Tables.lean ====
section
/-! DEFINITION. The default ScanCodeTable, row for row (40_scancode_table.md R95), and the lookup in a table. -/

namespace Sys2Proof.Machine

/-- KeycodeEntry (40_scancode_table.md R91): "(keycode: u8, plain: character, shifted: character)". -/
structure KeycodeEntry where
  keycode : Byte
  plain   : Byte
  shifted : Byte
  deriving DecidableEq, Repr

/-- `SCT[k]`: the row of keycode `k`, if there is one (40_scancode_table.md R90, R91). Keys are unique in an admissible
table; where they are not, the first row counts (Log 11). -/
def sctEntry : List KeycodeEntry → Byte → Option KeycodeEntry
  | [], _ => none
  | e :: rest, k => if e.keycode = k then some e else sctEntry rest k

/-- `SCT_DEFAULT` (40_scancode_table.md R95): the letters. -/
def sctLetters : List KeycodeEntry :=
  [⟨0x04, 0x61, 0x41⟩, ⟨0x05, 0x62, 0x42⟩, ⟨0x06, 0x63, 0x43⟩, ⟨0x07, 0x64, 0x44⟩,
   ⟨0x08, 0x65, 0x45⟩, ⟨0x09, 0x66, 0x46⟩, ⟨0x0A, 0x67, 0x47⟩, ⟨0x0B, 0x68, 0x48⟩,
   ⟨0x0C, 0x69, 0x49⟩, ⟨0x0D, 0x6A, 0x4A⟩, ⟨0x0E, 0x6B, 0x4B⟩, ⟨0x0F, 0x6C, 0x4C⟩,
   ⟨0x10, 0x6D, 0x4D⟩, ⟨0x11, 0x6E, 0x4E⟩, ⟨0x12, 0x6F, 0x4F⟩, ⟨0x13, 0x70, 0x50⟩,
   ⟨0x14, 0x71, 0x51⟩, ⟨0x15, 0x72, 0x52⟩, ⟨0x16, 0x73, 0x53⟩, ⟨0x17, 0x74, 0x54⟩,
   ⟨0x18, 0x75, 0x55⟩, ⟨0x19, 0x76, 0x56⟩, ⟨0x1A, 0x77, 0x57⟩, ⟨0x1B, 0x78, 0x58⟩,
   ⟨0x1C, 0x79, 0x59⟩, ⟨0x1D, 0x7A, 0x5A⟩]

/-- `SCT_DEFAULT`: the digits, with the US keyboard's symbols (D3). -/
def sctDigits : List KeycodeEntry :=
  [⟨0x1E, 0x31, 0x21⟩, ⟨0x1F, 0x32, 0x40⟩, ⟨0x20, 0x33, 0x23⟩, ⟨0x21, 0x34, 0x24⟩,
   ⟨0x22, 0x35, 0x25⟩, ⟨0x23, 0x36, 0x5E⟩, ⟨0x24, 0x37, 0x26⟩, ⟨0x25, 0x38, 0x2A⟩,
   ⟨0x26, 0x39, 0x28⟩, ⟨0x27, 0x30, 0x29⟩]

/-- `SCT_DEFAULT`: the six single-character entries, the same in both columns (R96, R97; D4, D6). -/
def sctControls : List KeycodeEntry :=
  [⟨0x28, 0x0A, 0x0A⟩, ⟨0x29, 0x1B, 0x1B⟩, ⟨0x2A, 0x08, 0x08⟩, ⟨0x2B, 0x09, 0x09⟩,
   ⟨0x2C, 0x20, 0x20⟩, ⟨0x2D, 0x5F, 0x5F⟩]

/-- `SCT_DEFAULT`: the punctuation pairs, 0x64 being the alias of 0x31 (R98; D5). -/
def sctPunctuation : List KeycodeEntry :=
  [⟨0x2E, 0x3D, 0x2B⟩, ⟨0x2F, 0x5B, 0x7B⟩, ⟨0x30, 0x5D, 0x7D⟩, ⟨0x31, 0x5C, 0x7C⟩,
   ⟨0x32, 0x23, 0x7E⟩, ⟨0x33, 0x3B, 0x3A⟩, ⟨0x34, 0x27, 0x22⟩, ⟨0x35, 0x60, 0x7E⟩,
   ⟨0x36, 0x2C, 0x3C⟩, ⟨0x37, 0x2E, 0x3E⟩, ⟨0x38, 0x2F, 0x3F⟩, ⟨0x64, 0x5C, 0x7C⟩]

/-- `SCT_DEFAULT`: 54 rows, in keycode order. -/
def sctDefault : List KeycodeEntry := sctLetters ++ sctDigits ++ sctControls ++ sctPunctuation

end Sys2Proof.Machine
end

