-- ==== Sys2Proof/Machine/State.lean ====
section
/-! DEFINITION. The state: the core's own (10_state.md), the bus target behind it (10_state.md R30, 60_exceptions.md
R190 to R196), the environment as plain data (10_state.md R31) and the observer's record (00_scope.md R12,
60_exceptions.md R189); and the state after reset (10_state.md R33). -/

namespace Sys2Proof.Machine

/-- `FRAME[0..7]` under its aliases (10_state.md R20). -/
structure Frame where
  mod  : Byte
  rsvd : Byte
  key0 : Byte
  key1 : Byte
  key2 : Byte
  key3 : Byte
  key4 : Byte
  key5 : Byte
  deriving DecidableEq, Repr

/-- The configuration record, fixed at construction (10_state.md R25), with the ScanCodeTable (R27). Durations are in
nanoseconds. R25's opaque bus handle has no field: the one handle is the bus of this State, which answers writes by
`State.answers` and then `Config.busAnswer`, and behind which `State.lines` and `State.display` stand (Log 27). -/
structure CoreConfig where
  busAddr             : BitVec 7
  backlight           : Bool
  tPulse              : Nat
  tSettle             : Nat
  nibbleTrailingWrite : Bool
  currencyBitmap      : Vector Byte 8
  nfLine1             : List Byte
  nfLine2             : List Byte
  sct                 : List KeycodeEntry
  deriving DecidableEq, Repr

/-- The two durations of the delay primitive (60_exceptions.md R182). -/
inductive DelayKind where
  | settle  -- T_SETTLE
  | pulse   -- T_PULSE
  deriving DecidableEq, Repr

/-- The alphabet of the output trace (00_scope.md R12). A bus event carries the device address too, which every
transaction carries (42_display_driver.md R145). -/
inductive Event where
  | w (addr : BitVec 7) (b : Byte)  -- W(b): a byte write that succeeded
  | f (addr : BitVec 7) (b : Byte)  -- F(b): a byte write the host reported as failed
  | d (t : DelayKind)               -- D(t)
  deriving DecidableEq, Repr

/-- DECODE_FRAME's value (41_hid_decoder.md R113). -/
inductive FrameValue where
  | empty
  | char (c : Byte)
  deriving DecidableEq, Repr

/-- DECODE_SCAN's value (41_hid_decoder.md R119). -/
inductive ScanValue where
  | noResult
  | str (s : List Byte)
  deriving DecidableEq, Repr

/-- Why a request is refused (60_exceptions.md R174), in the order of its table, which is the order of precedence
(R176 (a)). -/
inductive Reason where
  | badLength | badFrame | badLine | badSlot | badBitmap | badNibble | badOp | busy
  deriving DecidableEq, Repr

/-- What an operation returns to the host (30_encoding.md R81, 60_exceptions.md R170). A LookupFailure is a report
beside the value: the keycode for a frame, the frame index and the keycode for a scan (R171). -/
inductive Result where
  | lookup (e : Option (Byte × Byte))
  | frame (v : FrameValue) (report : Option Byte)
  | scan (v : ScanValue) (reports : List (Nat × Byte))
  | ok
  | busFailure (b : Byte) (i : Nat)
  | refused (r : Reason)
  deriving DecidableEq, Repr

/-- A memory: (address, byte) cells in strictly rising order of address. An unlisted address has no known value
(Log 20). -/
abbrev Memory := List Host.Cell

/-- The controller's interface width and nibble pairing (60_exceptions.md R192, 10_state.md R30 (b)). -/
inductive Iface where
  | unsynced (threes : Nat)           -- width unknown; so many "function set, 8-bit" strobes in a row so far
  | eight                             -- 8-bit interface: every strobe is a whole command
  | four                              -- 4-bit interface, the next strobe is an upper half
  | fourHalf (hi : Nibble) (rs : Bool) -- 4-bit interface, an upper half with its RS line is held
  deriving DecidableEq, Repr

/-- The controller's address counter: the memory that the last "set address" command chose, and the address if it is known
(60_exceptions.md R193, R194). -/
inductive Pointer where
  | ddram (a : Option (BitVec 7))
  | cgram (a : Option (BitVec 6))
  deriving DecidableEq, Repr

/-- The display controller as the receiver reference describes it (60_exceptions.md R190 to R196; Log 12). `none` and
an unlisted cell mean: not known. -/
structure Display where
  iface     : Iface
  counter   : Option Pointer
  ddram     : Memory
  cgram     : Memory
  increment : Option Bool  -- entry mode I
  shiftMode : Option Bool  -- entry mode S
  offset    : Option Nat   -- by how many cells the display is shifted: 0, or not known (Log 30)
  displayOn : Option Bool  -- display control D
  cursorOn  : Option Bool  -- display control C
  blinkOn   : Option Bool  -- display control B
  twoLines  : Option Bool  -- function set N
  fiveByTen : Option Bool  -- function set F
  deriving DecidableEq, Repr

/-- A request the host has queued: its bytes as the port of one format delivers them, and the host's mark that it was
made while the operation before it was still running (60_exceptions.md R184; Log 1, 6). -/
structure Request where
  format : Format
  bytes  : List Byte
  during : Bool
  deriving DecidableEq, Repr

/-- The state. -/
structure State where
  -- the core
  frame      : Frame          -- FRAME[0..7] (10 R20); what it holds after an operation: Log 26
  shift      : Bool           -- SHIFT (10 R23); what it holds after an operation: Log 26
  result     : List Byte      -- RESULT (10 R24)
  fi         : Nat            -- FI (10 R22 (a))
  seqStep    : Nat            -- the sequencer step (10 R22 (b))
  opWrites   : Nat            -- bus writes of this operation that succeeded (60 R170, R173)
  inProgress : Bool           -- an operation is in progress (10 R33, 60 R184)
  cfg        : CoreConfig     -- the configuration record and the table (10 R25, R27)
  -- the bus target
  lines      : Option Byte    -- the expander's eight output lines (10 R30 (a)); none: not known (Log 13)
  display    : Option Display -- the controller behind it (10 R30); none: not known at all
  -- the environment
  requests   : List Request   -- what the host has asked for, oldest first
  answers    : List Bool      -- the bus's answers to the coming writes, as far as they are given (60 R188)
  busCount   : Nat            -- bus writes attempted so far: what the free answers are applied to (Log 5)
  -- the observer
  trace      : List Event     -- the output trace (00 R12)
  results    : List Result    -- the results in request order (60 R189)
  deriving DecidableEq, Repr

/-- The machine stops with a fault. -/
inductive Fault where
  /-- Raised by `step` when the bytes of the oldest request end early, are left over or break the request layout: no
  host can mean a request by them. Safe: the machine stops and claims nothing. Log 23. -/
  | illFramed (e : DecodeError)
  deriving DecidableEq, Repr

/-- No meaning for the instruction. -/
inductive Refusal where
  /-- Raised by `exec` for an instruction that has no meaning yet; no instruction of this model is such. Safe: the machine
  stops. -/
  | notModelled (mnemonic : String)
  deriving DecidableEq, Repr

/-- The outcome of one step or instruction. -/
abbrev Outcome := Host.Outcome State Fault Refusal

/-- The configuration at construction (10_state.md R33, 00_scope.md R8): BACKLIGHT = 1 (D12), NIBBLE_TRAILING_WRITE =
false (D11), `SCT_DEFAULT`, and free constants for what the spec leaves OPEN (Log 8). -/
def CoreConfig.construction : CoreConfig :=
  { busAddr := Config.busAddr
    backlight := true
    tPulse := 450 + Config.pulseMargin
    tSettle := 600000 + Config.settleMargin
    nibbleTrailingWrite := false
    currencyBitmap := Config.currencyBitmap
    nfLine1 := Config.nfLine1
    nfLine2 := Config.nfLine2
    sct := sctDefault }

/-- The state after reset (10_state.md R33): idle, nothing requested, nothing sent, the bus target unknown. FRAME and
SHIFT have no value in the spec; 0 is the model's (Log 7). -/
def State.reset : State :=
  { frame := ⟨0x00, 0x00, 0x00, 0x00, 0x00, 0x00, 0x00, 0x00⟩
    shift := false
    result := []
    fi := 0
    seqStep := 0
    opWrites := 0
    inProgress := false
    cfg := CoreConfig.construction
    lines := none
    display := none
    requests := []
    answers := []
    busCount := 0
    trace := []
    results := [] }

end Sys2Proof.Machine
end

