-- ==== Sys2Proof/Machine/Flags.lean ====
section
/-! DEFINITION. The core's one flag, SHIFT (10_state.md R23, 41_hid_decoder.md R111), and the selection it makes. -/

namespace Sys2Proof.Machine

/-- `SHIFT_MARKER` (41_hid_decoder.md R110). -/
def shiftMarker : Byte := 0x02

/-- `NO_KEY` (00_scope.md R7). -/
def noKey : Byte := 0x00

/-- SHIFT as `FRAME[0]` gives it: equality of the whole byte with the marker, no bit test (41_hid_decoder.md R111). -/
def shiftFlag (modByte : Byte) : Bool := modByte == shiftMarker

/-- The plain or the shifted character of an entry (41_hid_decoder.md R113). -/
def selectChar (shift : Bool) (e : KeycodeEntry) : Byte := if shift then e.shifted else e.plain

end Sys2Proof.Machine
end

