-- ==== Sys2Proof/Machine/Operands.lean ====
section
/-! DEFINITION. Operand assembly (30_encoding.md): frames, the line operand, the display line, the controller bytes, the
bus byte, and the preconditions of a request (60_exceptions.md R174). -/

namespace Sys2Proof.Machine

/-! Frames. -/

/-- The eight registers in order, byte 0 first (20_memory.md R45 (a)). -/
def Frame.toBytes (f : Frame) : List Byte := [f.mod, f.rsvd, f.key0, f.key1, f.key2, f.key3, f.key4, f.key5]

/-- The frame in which the keycode `k` stands at its place: byte 0 is the shift marker or 0x00, every other byte is 0x00, and
at byte 0 the keycode itself stands (Log 2). -/
def keyFrame (k : Byte) (pos : KeyPlace) : Frame :=
  let byteAt := fun (j : BitVec 3) (b : Byte) => if pos.index = j then k else b
  ⟨byteAt 0 (if pos.shifted then 0x02#8 else 0x00#8), byteAt 1 0x00, byteAt 2 0x00, byteAt 3 0x00, byteAt 4 0x00, byteAt 5 0x00,
    byteAt 6 0x00, byteAt 7 0x00⟩

/-- A list cut into frames of 8 bytes in order (20_memory.md R46); a remainder shorter than a frame gives none. -/
def framesOf : List Byte → List Frame
  | a :: b :: c :: d :: e :: f :: g :: h :: rest => ⟨a, b, c, d, e, f, g, h⟩ :: framesOf rest
  | _ => []

/-- The bytes the filter drops, at every position alike (41_hid_decoder.md R112). -/
def filtered (b : Byte) : Bool := b == noKey || b == shiftMarker

/-- `REM` (41_hid_decoder.md R112). -/
def remaining (f : Frame) : List Byte := f.toBytes.filter (fun b => !filtered b)

/-- `SENTINEL`, newline (00_scope.md R8, D7). -/
def sentinel : Byte := 0x0A

/-- RESULT cut at the first sentinel, which is dropped with everything after it (41_hid_decoder.md R117). -/
def cutAtSentinel (l : List Byte) : List Byte := l.takeWhile (fun c => c != sentinel)

/-- The value of a scan whose cut string is this one (41_hid_decoder.md R118). -/
def scanValue : List Byte → ScanValue
  | [] => .noResult
  | c :: l => .str (c :: l)

/-! Texts, lines and glyphs. -/

/-- `PAD_CHAR` (00_scope.md R8). -/
def padChar : Byte := 0x20

/-- `LINE_WIDTH` (00_scope.md R7). -/
def lineWidth : Nat := 16

/-- `line16` (30_encoding.md R73): the first 16 characters, padded on the right with spaces. -/
def line16 (text : List Byte) : List Byte :=
  text.take lineWidth ++ List.replicate (lineWidth - text.length) padChar

/-- `LINE_ADDR` (30_encoding.md R68), by index. -/
def lineAddr : Nat → Option Byte
  | 0 => some 0x80
  | 1 => some 0xC0
  | 2 => some 0x94
  | 3 => some 0xD4
  | _ => none

/-- The line-address command byte of a line operand, if it is one of the four (30_encoding.md R74). -/
def lineCommand : LineSel → Option Byte
  | .index n => lineAddr n.toNat
  | .address b => if b = 0x80#8 ∨ b = 0xC0#8 ∨ b = 0x94#8 ∨ b = 0xD4#8 then some b else none

/-- `cgcmd(slot)` (30_encoding.md R69). -/
def glyphCommand (slot : BitVec 3) : Byte := 0x40#8 ||| (slot.setWidth 8 <<< 3)

/-- `INIT_SEQ` (30_encoding.md R70). -/
def initSeq : List Byte := [0x33, 0x32, 0x06, 0x0C, 0x28, 0x01]

/-- `GLYPH_CHAR` (43_display_formatter.md R163). -/
def glyphChar : Byte := 0x00

/-! The bus byte. -/

/-- The mode bit (30_encoding.md R64). -/
def modeBit : Mode → Byte
  | .command => 0x00
  | .character => 0x01

/-- `busbyte(n, m, e)` (30_encoding.md R66) with the backlight bit given. -/
def busbyte (backlight : Bool) (n : Nibble) (m : Mode) (e : Bool) : Byte :=
  (n.setWidth 8 <<< 4) ||| (if backlight then 0x08#8 else 0x00#8) ||| (if e then 0x04#8 else 0x00#8) ||| modeBit m

/-- The enable bit set: `b | 0x04` (42_display_driver.md R131). -/
def enableHigh (b : Byte) : Byte := b ||| 0x04#8

/-- The enable bit cleared: `b & ~0x04` (42_display_driver.md R131, 30_encoding.md R76 (g)). -/
def enableLow (b : Byte) : Byte := b &&& ~~~0x04#8

/-- `v[7:4]` (30_encoding.md R67). -/
def highNibble (v : Byte) : Nibble := v.extractLsb' 4 4

/-- `v[3:0]` (30_encoding.md R67). -/
def lowNibble (v : Byte) : Nibble := v.extractLsb' 0 4

/-! Preconditions (60_exceptions.md R174): the reason a request is refused for its operands, the first in the order of
R174's table (R176 (a)). -/

def scanPrecondition (bytes : List Byte) : Option Reason :=
  if bytes.length % 8 = 0 then none else some .badLength

def framePrecondition (frame : List Byte) : Option Reason :=
  if frame.length = 8 then none else some .badFrame

def linePrecondition (line : LineSel) : Option Reason :=
  match lineCommand line with
  | some _ => none
  | none => some .badLine

def glyphPrecondition (slot : Byte) (bitmap : List Byte) : Option Reason :=
  if ¬ slot.toNat < 8 then some .badSlot
  else if ¬ bitmap.length = 8 then some .badBitmap
  else none

def nibblePrecondition (n : Byte) : Option Reason :=
  if n.toNat < 16 then none else some .badNibble

/-- The reason an instruction is refused for its operands alone. -/
def preconditionOf : Instr → Option Reason
  | .decodeFrame f => framePrecondition f
  | .decodeScan bs => scanPrecondition bs
  | .writeNibble n _ => nibblePrecondition n
  | .writeString _ line => linePrecondition line
  | .defineGlyph slot bm => glyphPrecondition slot bm
  | .opUnassignedA | .opUnassignedB | .opUnassignedC => some .badOp
  | .opUnassignedD | .opUnassignedE | .opUnassignedF => some .badOp
  | _ => none

/-- The reason a request is refused, if it is: its operands' reason comes before Busy (60_exceptions.md R176 (a)). -/
def refusalReason (pre : Option Reason) (inProgress : Bool) : Option Reason :=
  match pre with
  | some r => some r
  | none => if inProgress then some .busy else none

/-! Codes (D18). -/

/-- The code of a refusal's reason (D18). -/
def reasonCode : Reason → Nat
  | .badLength => 1
  | .badFrame => 2
  | .badLine => 3
  | .badSlot => 4
  | .badBitmap => 5
  | .badNibble => 6
  | .badOp => 7
  | .busy => 8

/-- The codes of the abnormal outcomes in a result (60_exceptions.md R170): LookupFailure 1, NoResult 2, BusFailure 3,
Refused 4. -/
def outcomeCodes : Result → List Nat
  | .lookup _ => []
  | .frame _ (some _) => [1]
  | .frame _ none => []
  | .scan .noResult reports => reports.map (fun _ => 1) ++ [2]
  | .scan (.str _) reports => reports.map (fun _ => 1)
  | .ok => []
  | .busFailure _ _ => [3]
  | .refused _ => [4]

end Sys2Proof.Machine
end

