-- ==== Sys2Proof/Machine/Memory.lean ====
section
/-! DEFINITION. The controller's two memories as lists of cells in canonical form: addresses strictly rising; a cell
that is not listed has no known value (Log 20). -/

namespace Sys2Proof.Machine

/-- The byte at an address, if it is known. -/
def Memory.read : Memory → Nat → Option Byte
  | [], _ => none
  | (k, v) :: m, a => if k = a then some v else Memory.read m a

/-- The memory with the byte at an address set. -/
def Memory.write : Memory → Nat → Byte → Memory
  | [], a, b => [(a, b)]
  | (k, v) :: m, a, b =>
    if a < k then (a, b) :: (k, v) :: m
    else if a = k then (a, b) :: m
    else (k, v) :: Memory.write m a b

/-- The memory with nothing known of an address any more. -/
def Memory.forget (m : Memory) (a : Nat) : Memory := m.filter (fun cell => cell.1 != a)

/-- The memory after a byte was stored at an address; of the byte something or nothing is known. -/
def Memory.store (m : Memory) (a : Nat) : Option Byte → Memory
  | some b => m.write a b
  | none => m.forget a

/-- The canonical form: every address is below `bound` and above `least`, and they rise strictly. -/
def Memory.risingFrom (bound : Nat) : Nat → Memory → Bool
  | _, [] => true
  | least, (k, _) :: m => decide (least ≤ k) && decide (k < bound) && Memory.risingFrom bound (k + 1) m

/-- A memory of `bound` addresses is in canonical form. -/
def Memory.wf (bound : Nat) (m : Memory) : Bool := Memory.risingFrom bound 0 m

/-- The cells on which two memories agree. -/
def Memory.agree (m1 m2 : Memory) : Memory := m1.filter (fun cell => m2.read cell.1 == some cell.2)

/-- `n` cells from `base`, all holding `b`. -/
def Memory.filled (base n : Nat) (b : Byte) : Memory := (List.range' base n).map (fun a => (a, b))

end Sys2Proof.Machine
end

