-- ==== Sys2Proof/Machine/Receiver.lean ====
section
/-! DEFINITION. What the bus target makes of the bytes written to it: the receiver reference of 60_exceptions.md R190 to
R196. The spec supplies it from general knowledge and declares it non-normative for the core (PRESUMED, Log 12); no
operation of the core reads any of it. Where the reference gives a command no effect, or gives no value, the controller's
contents become unknown, which is safe. -/

namespace Sys2Proof.Machine

/-- The address a display-memory cell exists at: 0x00 to 0x27 and 0x40 to 0x67 (R193). -/
def ddramExists (a : BitVec 7) : Bool := a.toNat < 0x28 || (0x40 ≤ a.toNat && a.toNat < 0x68)

/-- Display memory after "clear display": both controller lines filled with spaces (R193). -/
def ddramCleared : Memory := Memory.filled 0x00 40 0x20 ++ Memory.filled 0x40 40 0x20

/-- A controller of which nothing is known but how its interface stands. -/
def Display.unknown (i : Iface) : Display :=
  { iface := i, counter := none, ddram := [], cgram := [], increment := none, shiftMode := none, offset := none,
    displayOn := none, cursorOn := none, blinkOn := none, twoLines := none, fiveByTen := none }

/-- The chosen memory stays, the address is no longer known. -/
def Pointer.forget : Pointer → Pointer
  | .ddram _ => .ddram none
  | .cgram _ => .cgram none

/-- The address counter after a data write (R194): one more with entry mode I = 1; with any other entry mode the address
is not known (Log 12). R194 gives no successor of the last display address 0x7F; glyph memory wraps (R214). -/
def Display.advance (d : Display) : Option Pointer :=
  match d.increment, d.counter with
  | some true, some (.ddram (some a)) => some (.ddram (if a = 0x7F#7 then none else some (a + 1)))
  | some true, some (.cgram (some a)) => some (.cgram (some (a + 1)))
  | _, p => p.map Pointer.forget

/-- The display offset after a data write (R193): the same with entry mode S = 0. With S = 1 the display shifts, by an amount
and in a direction that are not given, so the offset is not known any more; with S not known it may have (Log 30). -/
def Display.slide (d : Display) : Option Nat := if d.shiftMode = some false then d.offset else none

/-- A data byte (R194), known or not: stored at the address counter, in the memory the last "set address" command chose, and
the display shifts or not. At an unknown address it may have hit any cell of that memory, and with no address command known,
of either; at a display-memory address that does not exist its effect on display memory is not given (Log 12). -/
def Display.dataByte (b : Option Byte) (d : Display) : Display :=
  let d1 := { d with offset := d.slide }
  match d.counter with
  | some (.ddram (some a)) =>
    { d1 with ddram := if ddramExists a then d.ddram.store a.toNat b else [], counter := d.advance }
  | some (.cgram (some a)) => { d1 with cgram := d.cgram.store a.toNat b, counter := d.advance }
  | some (.ddram none) => { d1 with ddram := [] }
  | some (.cgram none) => { d1 with cgram := [] }
  | none => { d1 with ddram := [], cgram := [] }

/-- A data byte of which both halves were taken (R194). -/
def Display.data (b : Byte) (d : Display) : Display := d.dataByte (some b)

/-- A command byte (R193): the highest set bit selects it. "Return home" and "cursor or display shift" are listed without
an effect: the first leaves the address counter unknown, the second its address, and both the display offset; "clear display"
leaves the display unshifted (Log 30). The byte 0x00 selects no command, and
leaves everything unknown but the interface and glyph memory, which no command writes (Log 12). -/
def Display.command (b : Byte) (d : Display) : Display :=
  if b.getLsbD 7 then { d with counter := some (.ddram (some (b.extractLsb' 0 7))) }
  else if b.getLsbD 6 then { d with counter := some (.cgram (some (b.extractLsb' 0 6))) }
  else if b.getLsbD 5 then
    { d with
      iface := if b.getLsbD 4 then .eight else .four
      twoLines := some (b.getLsbD 3)
      fiveByTen := some (b.getLsbD 2) }
  else if b.getLsbD 4 then { d with counter := d.counter.map Pointer.forget, offset := none }
  else if b.getLsbD 3 then
    { d with displayOn := some (b.getLsbD 2), cursorOn := some (b.getLsbD 1), blinkOn := some (b.getLsbD 0) }
  else if b.getLsbD 2 then { d with increment := some (b.getLsbD 1), shiftMode := some (b.getLsbD 0) }
  else if b.getLsbD 1 then { d with counter := none, offset := none }
  else if b.getLsbD 0 then { d with ddram := ddramCleared, counter := some (.ddram (some 0)), offset := some 0 }
  else { Display.unknown d.iface with cgram := d.cgram }

/-! Two possible controllers: what is the same in both. -/

/-- A value on which both agree. -/
def agreeOn {α : Type} [DecidableEq α] (a b : Option α) : Option α := if a = b then a else none

/-- The memory and the address on which two address counters agree. -/
def Pointer.agree : Option Pointer → Option Pointer → Option Pointer
  | some (.ddram a), some (.ddram b) => some (.ddram (agreeOn a b))
  | some (.cgram a), some (.cgram b) => some (.cgram (agreeOn a b))
  | _, _ => none

/-- What is known of a controller that is one of two; `i` is its interface where they differ. -/
def Display.agree (i : Iface) (a b : Display) : Display :=
  { iface := if a.iface = b.iface then a.iface else i
    counter := Pointer.agree a.counter b.counter
    ddram := a.ddram.agree b.ddram
    cgram := a.cgram.agree b.cgram
    increment := agreeOn a.increment b.increment
    shiftMode := agreeOn a.shiftMode b.shiftMode
    offset := agreeOn a.offset b.offset
    displayOn := agreeOn a.displayOn b.displayOn
    cursorOn := agreeOn a.cursorOn b.cursorOn
    blinkOn := agreeOn a.blinkOn b.blinkOn
    twoLines := agreeOn a.twoLines b.twoLines
    fiveByTen := agreeOn a.fiveByTen b.fiveByTen }

/-! Strobes. -/

/-- A strobe while the interface width is unknown (R192): three "function set, 8-bit" strobes in a row force the 8-bit
interface from any state; any other strobe starts the count again. -/
def strobeUnsynced (threes : Nat) (n : Nibble) (rs : Bool) : Display :=
  if n = 3 ∧ rs = false then
    if threes + 1 < 3 then Display.unknown (.unsynced (threes + 1)) else Display.unknown .eight
  else Display.unknown (.unsynced 0)

/-- A second half (R192): with the upper half's RS line the byte is a command or a data byte. The controller pairs by
counting (70_reset_and_hazards.md R212), so halves with different RS lines are a byte too; which register takes it is not
given, and what both outcomes share is kept (Log 12). -/
def Display.lowerHalf (hi : Nibble) (rsHi : Bool) (n : Nibble) (rs : Bool) (d : Display) : Display :=
  let d4 := { d with iface := .four }
  if rsHi = rs then (if rs then d4.data (hi ++ n) else d4.command (hi ++ n))
  else Display.agree (strobeUnsynced 0 n rs).iface (d4.command (hi ++ n)) (d4.data (hi ++ n))

/-- A strobe with RS = 0 in the 8-bit interface (R192): a whole command whose upper half is `n`, and whose lower half is not
known, since those data lines are not connected. The highest set bit selects the command as in R193, and what the lower half
would say is unknown: the address of a "set address", the fields N and F of a function set. With no bit set in the upper half
the lower half selects one of the commands that leave the interface and glyph memory alone, or none. -/
def Display.wholeCommand (n : Nibble) (d : Display) : Display :=
  if n.getLsbD 3 then { d with counter := some (.ddram none) }
  else if n.getLsbD 2 then { d with counter := some (.cgram none) }
  else if n.getLsbD 1 then
    { d with iface := if n.getLsbD 0 then .eight else .four, twoLines := none, fiveByTen := none }
  else if n.getLsbD 0 then { d with counter := d.counter.map Pointer.forget, offset := none }
  else { Display.unknown d.iface with cgram := d.cgram }

/-- One strobe: a nibble with its RS line, taken at the falling edge of E (R191, R192). In the 8-bit interface it is a whole
command, or a whole data byte, whose lower half is not known. -/
def Display.strobe (n : Nibble) (rs : Bool) (d : Display) : Display :=
  match d.iface with
  | .unsynced k => strobeUnsynced k n rs
  | .eight => if rs then d.dataByte none else d.wholeCommand n
  | .four => { d with iface := .fourHalf n rs }
  | .fourHalf hi rsHi => d.lowerHalf hi rsHi n rs

/-- A byte on the expander's lines after `old` (R191, R196): where bit 2 goes from 1 to 0 the controller takes the nibble
in bits 7:4 with RS = bit 0 of that byte (Log 24). R/W = bit 1 is 0 = write there; of R/W = 1, which no operation of the core
sends, nothing is given, and the controller is not known any more (Log 29). With the earlier lines unknown a low bit 2 may be
such an edge or not. -/
def Display.onWrite (old : Option Byte) (b : Byte) (d : Display) : Display :=
  if b.getLsbD 2 then d
  else
    match old with
    | none => Display.unknown (.unsynced 0)
    | some o =>
      if o.getLsbD 2 then
        if b.getLsbD 1 then Display.unknown (.unsynced 0) else d.strobe (b.extractLsb' 4 4) (b.getLsbD 0)
      else d

/-- When INIT begins, a controller that was not known becomes one that can be followed: 93 U5 lets it become known again
only by INIT (and a glyph slot by DEFINE_GLYPH after it). -/
def startFollowing : Option Display → Option Display
  | some d => some d
  | none => some (Display.unknown (.unsynced 0))

end Sys2Proof.Machine
end

