-- ==== Sys2Proof/Machine/Ops.lean ====
section
/-! DEFINITION. The shared operations: accepting or refusing a request, returning a result, the two host primitives
BusWrite and Delay (00_scope.md R11), the one outcome that diverts an operation, BusFailure (60_exceptions.md R173,
R177), running a driver operation's plan, decoding one frame, and fetching the next request. -/

namespace Sys2Proof.Machine

/-! Accepting, refusing, returning. -/

/-- The operation returns this result to the host (60_exceptions.md R170, R189). -/
def State.finish (r : Result) (s : State) : State := { s with results := s.results ++ [r] }

/-- An operation starts: FI and the sequencer step are 0 at the start of every operation (10_state.md R33). -/
def State.started (s : State) : State := { s with fi := 0, seqStep := 0, opWrites := 0 }

/-- A request: refused with a reason, in which case nothing happens but the report (60_exceptions.md R174), or run from
its first event to its last (60_exceptions.md R184). `pre` is the reason its operands give. -/
def accept (pre : Option Reason) (run : State → State) (s : State) : Outcome :=
  .next (match refusalReason pre s.inProgress with
    | some r => s.finish (.refused r)
    | none => run s.started)

/-! The host primitives. -/

/-- The answer to the next bus write: the environment's (60_exceptions.md R188), the given ones first (Log 5). -/
def State.answer (s : State) : Bool := s.answers.headD (Config.busAnswer s.busCount)

/-- One more event of the running operation (10_state.md R22 (b)). -/
def State.emit (e : Event) (s : State) : State := { s with trace := s.trace ++ [e], seqStep := s.seqStep + 1 }

/-- One answer of the environment is used up. -/
def State.answered (s : State) : State := { s with answers := s.answers.tail, busCount := s.busCount + 1 }

/-- `BusWrite(b)` that the host reports as done: W(b), the byte on the expander's lines, and what the controller makes of
it (00_scope.md R11, 20_memory.md R48), whether or not INIT has been requested (93 U10; Log 32). -/
def State.busWritten (b : Byte) (s : State) : State :=
  let s1 := (s.answered).emit (.w s.cfg.busAddr b)
  { s1 with
    opWrites := s.opWrites + 1
    lines := some b
    display := s.display.map (Display.onWrite s.lines b) }

/-- TAKING A BusFailure (60_exceptions.md R173, R177): F(b) is the last event, the result records the byte and the number
of writes that succeeded before it, the core is idle again. Nothing is saved and there is no return (R179). The failed
byte is not delivered (R173), and the bus target, lines and controller, is unknown from here on (R178, 93 U5; Log 13). -/
def State.raiseBusFailure (b : Byte) (s : State) : State :=
  let s1 := (s.answered).emit (.f s.cfg.busAddr b)
  { s1 with
    lines := none
    display := none
    results := s.results ++ [.busFailure b s.opWrites] }

/-- `Delay(t)`: D(t); it cannot fail (60_exceptions.md R182, D31). -/
def State.delayed (t : DelayKind) (s : State) : State := s.emit (.d t)

/-! Plans of the driver. -/

/-- One call of a host primitive. -/
inductive Act where
  | write (b : Byte)
  | wait (t : DelayKind)
  deriving DecidableEq, Repr

/-- A driver operation from here to its end: it returns Ok after its last call, or ends with BusFailure at the first
failing write, with every composite operation around it (60_exceptions.md R173, 30_encoding.md R83). -/
def runActs : List Act → State → State
  | [], s => s.finish .ok
  | .wait t :: acts, s => runActs acts (s.delayed t)
  | .write b :: acts, s =>
    if s.answer then runActs acts (s.busWritten b) else s.raiseBusFailure b

/-- WRITE_NIBBLE's calls (42_display_driver.md R131). -/
def nibblePlan (cfg : CoreConfig) (n : Nibble) (m : Mode) : List Act :=
  let b := busbyte cfg.backlight n m false
  [.write b, .wait .settle, .write (enableHigh b), .wait .pulse, .write (enableLow b), .wait .settle] ++
    (if cfg.nibbleTrailingWrite then [.write b] else [])

/-- WRITE_BYTE's calls: high nibble, then low nibble (42_display_driver.md R133). -/
def bytePlan (cfg : CoreConfig) (v : Byte) (m : Mode) : List Act :=
  nibblePlan cfg (highNibble v) m ++ nibblePlan cfg (lowNibble v) m

/-- Several controller bytes in one mode, in order. -/
def bytesPlan (cfg : CoreConfig) (m : Mode) : List Byte → List Act
  | [] => []
  | v :: vs => bytePlan cfg v m ++ bytesPlan cfg m vs

/-- INIT's calls (42_display_driver.md R134). -/
def initPlan (cfg : CoreConfig) : List Act := bytesPlan cfg .command initSeq ++ [.wait .settle]

/-- WRITE_STRING's calls after its line-address byte is known (42_display_driver.md R136). -/
def linePlan (cfg : CoreConfig) (address : Byte) (text : List Byte) : List Act :=
  bytePlan cfg address .command ++ bytesPlan cfg .character (line16 text)

/-- WRITE_STRING's calls; without one of the four lines there are none, since the request is refused. -/
def stringPlan (cfg : CoreConfig) (text : List Byte) (line : LineSel) : List Act :=
  match lineCommand line with
  | some address => linePlan cfg address text
  | none => []

/-- DEFINE_GLYPH's calls (42_display_driver.md R138). -/
def glyphPlan (cfg : CoreConfig) (slot : BitVec 3) (bitmap : List Byte) : List Act :=
  bytePlan cfg (glyphCommand slot) .command ++ bytesPlan cfg .character bitmap

/-- A driver or formatter operation with a plan made from the configuration. -/
def driverOp (pre : Option Reason) (plan : CoreConfig → List Act) (s : State) : Outcome :=
  accept pre (fun s1 => runActs (plan s1.cfg) s1) s

/-! The decoder. -/

/-- The eight registers are loaded and SHIFT is derived from the first (41_hid_decoder.md R111, R113). -/
def State.loadFrame (f : Frame) (s : State) : State := { s with frame := f, shift := shiftFlag f.mod }

/-- The value and the report for a keycode under a shift state (41_hid_decoder.md R113, 60_exceptions.md R171). -/
def decodeKey (sct : List KeycodeEntry) (shift : Bool) (k : Byte) : FrameValue × Option Byte :=
  match sctEntry sct k with
  | some e => (.char (selectChar shift e), none)
  | none => (.empty, some k)

/-- The value and the report for the frame in FRAME: its first remaining byte is the keycode (41_hid_decoder.md R113). -/
def State.decodeLoaded (s : State) : FrameValue × Option Byte :=
  match remaining s.frame with
  | [] => (.empty, none)
  | k :: _ => decodeKey s.cfg.sct s.shift k

/-- A frame's character goes to the end of RESULT; an empty frame contributes nothing (41_hid_decoder.md R116). -/
def State.appendResult (v : FrameValue) (s : State) : State :=
  match v with
  | .empty => s
  | .char c => { s with result := s.result ++ [c] }

/-- The LookupFailure of frame FI, recorded as (FI, k) (41_hid_decoder.md R116, R119). -/
def frameReport (fi : Nat) : Option Byte → List (Nat × Byte)
  | none => []
  | some k => [(fi, k)]

/-- DECODE_SCAN's loop: every frame in order, none skipped (41_hid_decoder.md R116, D20). -/
def scanLoop : List Frame → State → List (Nat × Byte) → State × List (Nat × Byte)
  | [], s, reports => (s, reports)
  | f :: fs, s, reports =>
    let s1 := s.loadFrame f
    let r := s1.decodeLoaded
    let s2 := s1.appendResult r.1
    scanLoop fs { s2 with fi := s.fi + 1 } (reports ++ frameReport s.fi r.2)

/-- DECODE_FRAME of a frame (41_hid_decoder.md R113): FRAME and SHIFT are written before anything is read; the value and
its report are returned. FRAME and SHIFT stay as they are when it returns, and nothing reads them (Log 26). -/
def State.decodeFrame (f : Frame) (s : State) : State :=
  let s1 := s.loadFrame f
  s1.finish (.frame s1.decodeLoaded.1 s1.decodeLoaded.2)

/-! The request port. -/

/-- Nothing is requested: an operation that was still running has returned (60_exceptions.md R186), and the core is idle. -/
def State.idled (s : State) : State := { s with inProgress := false }

/-- What the port gives for the oldest request. -/
inductive Fetched where
  | idle                              -- nothing is requested
  | instr (i : Instr) (s : State)     -- an instruction, and the state with its request taken
  | noSuchRow (s : State)             -- a code word of no row, and the state with its request taken
  | illFramed (e : DecodeError)
  deriving DecidableEq, Repr

/-- The oldest request is taken; its mark says whether the operation before it was still running when the host made it
(60_exceptions.md R184; Log 6). -/
def State.taken (r : Request) (rest : List Request) (s : State) : State :=
  { s with requests := rest, inProgress := r.during }

/-- The oldest request is taken and decoded. -/
def State.fetch (s : State) : Fetched :=
  match s.requests with
  | [] => .idle
  | r :: rest =>
    match decodeWhole r.format r.bytes with
    | .ok i => .instr i (s.taken r rest)
    | .error (.noSuchRow _ _) => .noSuchRow (s.taken r rest)
    | .error e => .illFramed e

/-- A request that is none of the operations is refused with BadOp, whether or not one is running, and nothing else happens
(60_exceptions.md R174, R176 (a); 30_encoding.md R75; Log 23). -/
def State.refuseBadOp (s : State) : State := s.finish (.refused .badOp)

end Sys2Proof.Machine
end

