-- ==== Sys2Proof/Machine/Bus.lean ====
section
/-! DEFINITION. The two bus byte rows (30_encoding.md R64): bytes that the core writes only within a WRITE_NIBBLE, low before
and after the pulse and high in it, each followed by its delay (30_encoding.md R63, R79, 42_display_driver.md R142). A row is
executed as the WRITE_NIBBLE of its nibble in its mode; the backlight bit of every byte is BACKLIGHT, whatever the row's own
bit 3 is (42_display_driver.md R141, R146; Log 2, 3). -/

namespace Sys2Proof.Machine

/-- BUS_SETUP: the first and the third byte of WRITE_NIBBLE (R131). -/
def execBusSetup (n : Nibble) (_backlight : Bool) (m : Mode) (s : State) : Outcome :=
  driverOp none (fun cfg => nibblePlan cfg n m) s

/-- BUS_STROBE: the second byte of WRITE_NIBBLE (R131). -/
def execBusStrobe (n : Nibble) (_backlight : Bool) (m : Mode) (s : State) : Outcome :=
  driverOp none (fun cfg => nibblePlan cfg n m) s

end Sys2Proof.Machine
end

