-- ==== Sys2Proof/Machine/Command.lean ====
section
/-! DEFINITION. The controller bytes the core emits, each sent by WRITE_BYTE (42_display_driver.md R133): the command rows
in Command mode (30_encoding.md R68 to R70) and the character row in Character mode (R71). Log 2. -/

namespace Sys2Proof.Machine

/-- INIT_33 (R70). -/
def execInit33 (s : State) : Outcome := driverOp none (fun cfg => bytePlan cfg 0x33 .command) s

/-- INIT_32 (R70). -/
def execInit32 (s : State) : Outcome := driverOp none (fun cfg => bytePlan cfg 0x32 .command) s

/-- INIT_06 (R70). -/
def execInit06 (s : State) : Outcome := driverOp none (fun cfg => bytePlan cfg 0x06 .command) s

/-- INIT_0C (R70). -/
def execInit0C (s : State) : Outcome := driverOp none (fun cfg => bytePlan cfg 0x0C .command) s

/-- INIT_28 (R70). -/
def execInit28 (s : State) : Outcome := driverOp none (fun cfg => bytePlan cfg 0x28 .command) s

/-- INIT_01 (R70). -/
def execInit01 (s : State) : Outcome := driverOp none (fun cfg => bytePlan cfg 0x01 .command) s

/-- LINE_ADDR_0 (R68). -/
def execLineAddr0 (s : State) : Outcome := driverOp none (fun cfg => bytePlan cfg 0x80 .command) s

/-- LINE_ADDR_1 (R68). -/
def execLineAddr1 (s : State) : Outcome := driverOp none (fun cfg => bytePlan cfg 0xC0 .command) s

/-- LINE_ADDR_2 (R68). -/
def execLineAddr2 (s : State) : Outcome := driverOp none (fun cfg => bytePlan cfg 0x94 .command) s

/-- LINE_ADDR_3 (R68). -/
def execLineAddr3 (s : State) : Outcome := driverOp none (fun cfg => bytePlan cfg 0xD4 .command) s

/-- CGRAM_ADDR (R69). -/
def execCgramAddr (slot : BitVec 3) (s : State) : Outcome :=
  driverOp none (fun cfg => bytePlan cfg (glyphCommand slot) .command) s

/-- CHAR (R71, R72): the code, or the bitmap row, unchanged. -/
def execChar (c : Byte) (s : State) : Outcome := driverOp none (fun cfg => bytePlan cfg c .character) s

end Sys2Proof.Machine
end

