-- ==== Sys2Proof/Machine/Decoder.lean ====
section
/-! DEFINITION. The HID report decoder: LOOKUP (40_scancode_table.md R90), DECODE_FRAME and DECODE_SCAN
(41_hid_decoder.md R113, R116 to R119). -/

namespace Sys2Proof.Machine

/-- LOOKUP (R90): the entry of `k`, or none; nothing else. -/
def execLookup (k : Byte) (s : State) : Outcome :=
  accept none (fun s1 => s1.finish (.lookup ((sctEntry s1.cfg.sct k).map (fun e => (e.plain, e.shifted))))) s

/-- DECODE_FRAME (R113): FRAME and SHIFT are written, the first remaining byte is looked up. -/
def execDecodeFrame (frame : List Byte) (s : State) : Outcome :=
  accept (framePrecondition frame)
    (fun s1 =>
      match framesOf frame with
      | f :: _ => s1.decodeFrame f
      | [] => s1)
    s

/-- DECODE_SCAN (R116 to R119): RESULT starts empty, every frame is decoded, the string is cut at the first sentinel;
RESULT is discarded when the operation returns (10_state.md R24; Log 10). -/
def execDecodeScan (bytes : List Byte) (s : State) : Outcome :=
  accept (scanPrecondition bytes)
    (fun s1 =>
      let out := scanLoop (framesOf bytes) { s1 with result := [] } []
      let s2 := out.1.finish (.scan (scanValue (cutAtSentinel out.1.result)) out.2)
      { s2 with result := [] })
    s

end Sys2Proof.Machine
end

