-- ==== Sys2Proof/Machine/Driver.lean ====
section
/-! DEFINITION. The display driver: WRITE_NIBBLE, WRITE_BYTE, INIT, WRITE_STRING, DEFINE_GLYPH (42_display_driver.md). -/

namespace Sys2Proof.Machine

/-- WRITE_NIBBLE (R131, R132). -/
def execWriteNibble (n : Byte) (m : Mode) (s : State) : Outcome :=
  driverOp (nibblePrecondition n) (fun cfg => nibblePlan cfg (lowNibble n) m) s

/-- WRITE_BYTE (R133). -/
def execWriteByte (v : Byte) (m : Mode) (s : State) : Outcome :=
  driverOp none (fun cfg => bytePlan cfg v m) s

/-- INIT (R134). From here on the controller can be followed again (93 U5; Log 12). -/
def execInit (s : State) : Outcome :=
  accept none (fun s1 => runActs (initPlan s1.cfg) { s1 with display := startFollowing s1.display }) s

/-- WRITE_STRING (R136, R137). -/
def execWriteString (text : List Byte) (line : LineSel) (s : State) : Outcome :=
  driverOp (linePrecondition line) (fun cfg => stringPlan cfg text line) s

/-- DEFINE_GLYPH (R138). -/
def execDefineGlyph (slot : Byte) (bitmap : List Byte) (s : State) : Outcome :=
  driverOp (glyphPrecondition slot bitmap) (fun cfg => glyphPlan cfg (slot.setWidth 3) bitmap) s

end Sys2Proof.Machine
end

