-- ==== Sys2Proof/Machine/Formatter.lean ====
section
/-! DEFINITION. The display formatter: SHOW_PRODUCT and SHOW_NOT_FOUND (43_display_formatter.md). Each is two
WRITE_STRINGs, the first at line 0 and the second at line 1; a BusFailure in the first ends the whole (R165). -/

namespace Sys2Proof.Machine

/-- SHOW_PRODUCT (R161): the title, then the currency glyph and the price. -/
def execShowProduct (title price : List Byte) (s : State) : Outcome :=
  driverOp none
    (fun cfg => stringPlan cfg title (.index 0) ++ stringPlan cfg (glyphChar :: price) (.index 1)) s

/-- SHOW_NOT_FOUND (R162): the two configured texts. -/
def execShowNotFound (s : State) : Outcome :=
  driverOp none
    (fun cfg => stringPlan cfg cfg.nfLine1 (.index 0) ++ stringPlan cfg cfg.nfLine2 (.index 1)) s

end Sys2Proof.Machine
end

