-- ==== Sys2Proof/Machine/Keycode.lean ====
section
/-! DEFINITION. The KEYCODE rows (30_encoding.md R61, 40_scancode_table.md R95, 41_hid_decoder.md R111 to R113): each is
DECODE_FRAME of a frame in which that keycode stands at one byte, byte 0 being the shift marker or not (Log 2). The
characters are those the core's table gives the keycode; in SCT_DEFAULT they are the row's. -/

namespace Sys2Proof.Machine

/-- KEY_04 (R95): in SCT_DEFAULT plain 0x61, shifted 0x41. -/
def execKey04 (pos : KeyPlace) (s : State) : Outcome :=
  accept none (State.decodeFrame (keyFrame 0x04 pos)) s

/-- KEY_05 (R95): in SCT_DEFAULT plain 0x62, shifted 0x42. -/
def execKey05 (pos : KeyPlace) (s : State) : Outcome :=
  accept none (State.decodeFrame (keyFrame 0x05 pos)) s

/-- KEY_06 (R95): in SCT_DEFAULT plain 0x63, shifted 0x43. -/
def execKey06 (pos : KeyPlace) (s : State) : Outcome :=
  accept none (State.decodeFrame (keyFrame 0x06 pos)) s

/-- KEY_07 (R95): in SCT_DEFAULT plain 0x64, shifted 0x44. -/
def execKey07 (pos : KeyPlace) (s : State) : Outcome :=
  accept none (State.decodeFrame (keyFrame 0x07 pos)) s

/-- KEY_08 (R95): in SCT_DEFAULT plain 0x65, shifted 0x45. -/
def execKey08 (pos : KeyPlace) (s : State) : Outcome :=
  accept none (State.decodeFrame (keyFrame 0x08 pos)) s

/-- KEY_09 (R95): in SCT_DEFAULT plain 0x66, shifted 0x46. -/
def execKey09 (pos : KeyPlace) (s : State) : Outcome :=
  accept none (State.decodeFrame (keyFrame 0x09 pos)) s

/-- KEY_0A (R95): in SCT_DEFAULT plain 0x67, shifted 0x47. -/
def execKey0A (pos : KeyPlace) (s : State) : Outcome :=
  accept none (State.decodeFrame (keyFrame 0x0A pos)) s

/-- KEY_0B (R95): in SCT_DEFAULT plain 0x68, shifted 0x48. -/
def execKey0B (pos : KeyPlace) (s : State) : Outcome :=
  accept none (State.decodeFrame (keyFrame 0x0B pos)) s

/-- KEY_0C (R95): in SCT_DEFAULT plain 0x69, shifted 0x49. -/
def execKey0C (pos : KeyPlace) (s : State) : Outcome :=
  accept none (State.decodeFrame (keyFrame 0x0C pos)) s

/-- KEY_0D (R95): in SCT_DEFAULT plain 0x6A, shifted 0x4A. -/
def execKey0D (pos : KeyPlace) (s : State) : Outcome :=
  accept none (State.decodeFrame (keyFrame 0x0D pos)) s

/-- KEY_0E (R95): in SCT_DEFAULT plain 0x6B, shifted 0x4B. -/
def execKey0E (pos : KeyPlace) (s : State) : Outcome :=
  accept none (State.decodeFrame (keyFrame 0x0E pos)) s

/-- KEY_0F (R95): in SCT_DEFAULT plain 0x6C, shifted 0x4C. -/
def execKey0F (pos : KeyPlace) (s : State) : Outcome :=
  accept none (State.decodeFrame (keyFrame 0x0F pos)) s

/-- KEY_10 (R95): in SCT_DEFAULT plain 0x6D, shifted 0x4D. -/
def execKey10 (pos : KeyPlace) (s : State) : Outcome :=
  accept none (State.decodeFrame (keyFrame 0x10 pos)) s

/-- KEY_11 (R95): in SCT_DEFAULT plain 0x6E, shifted 0x4E. -/
def execKey11 (pos : KeyPlace) (s : State) : Outcome :=
  accept none (State.decodeFrame (keyFrame 0x11 pos)) s

/-- KEY_12 (R95): in SCT_DEFAULT plain 0x6F, shifted 0x4F. -/
def execKey12 (pos : KeyPlace) (s : State) : Outcome :=
  accept none (State.decodeFrame (keyFrame 0x12 pos)) s

/-- KEY_13 (R95): in SCT_DEFAULT plain 0x70, shifted 0x50. -/
def execKey13 (pos : KeyPlace) (s : State) : Outcome :=
  accept none (State.decodeFrame (keyFrame 0x13 pos)) s

/-- KEY_14 (R95): in SCT_DEFAULT plain 0x71, shifted 0x51. -/
def execKey14 (pos : KeyPlace) (s : State) : Outcome :=
  accept none (State.decodeFrame (keyFrame 0x14 pos)) s

/-- KEY_15 (R95): in SCT_DEFAULT plain 0x72, shifted 0x52. -/
def execKey15 (pos : KeyPlace) (s : State) : Outcome :=
  accept none (State.decodeFrame (keyFrame 0x15 pos)) s

/-- KEY_16 (R95): in SCT_DEFAULT plain 0x73, shifted 0x53. -/
def execKey16 (pos : KeyPlace) (s : State) : Outcome :=
  accept none (State.decodeFrame (keyFrame 0x16 pos)) s

/-- KEY_17 (R95): in SCT_DEFAULT plain 0x74, shifted 0x54. -/
def execKey17 (pos : KeyPlace) (s : State) : Outcome :=
  accept none (State.decodeFrame (keyFrame 0x17 pos)) s

/-- KEY_18 (R95): in SCT_DEFAULT plain 0x75, shifted 0x55. -/
def execKey18 (pos : KeyPlace) (s : State) : Outcome :=
  accept none (State.decodeFrame (keyFrame 0x18 pos)) s

/-- KEY_19 (R95): in SCT_DEFAULT plain 0x76, shifted 0x56. -/
def execKey19 (pos : KeyPlace) (s : State) : Outcome :=
  accept none (State.decodeFrame (keyFrame 0x19 pos)) s

/-- KEY_1A (R95): in SCT_DEFAULT plain 0x77, shifted 0x57. -/
def execKey1A (pos : KeyPlace) (s : State) : Outcome :=
  accept none (State.decodeFrame (keyFrame 0x1A pos)) s

/-- KEY_1B (R95): in SCT_DEFAULT plain 0x78, shifted 0x58. -/
def execKey1B (pos : KeyPlace) (s : State) : Outcome :=
  accept none (State.decodeFrame (keyFrame 0x1B pos)) s

/-- KEY_1C (R95): in SCT_DEFAULT plain 0x79, shifted 0x59. -/
def execKey1C (pos : KeyPlace) (s : State) : Outcome :=
  accept none (State.decodeFrame (keyFrame 0x1C pos)) s

/-- KEY_1D (R95): in SCT_DEFAULT plain 0x7A, shifted 0x5A. -/
def execKey1D (pos : KeyPlace) (s : State) : Outcome :=
  accept none (State.decodeFrame (keyFrame 0x1D pos)) s

/-- KEY_1E (R95): in SCT_DEFAULT plain 0x31, shifted 0x21. -/
def execKey1E (pos : KeyPlace) (s : State) : Outcome :=
  accept none (State.decodeFrame (keyFrame 0x1E pos)) s

/-- KEY_1F (R95): in SCT_DEFAULT plain 0x32, shifted 0x40. -/
def execKey1F (pos : KeyPlace) (s : State) : Outcome :=
  accept none (State.decodeFrame (keyFrame 0x1F pos)) s

/-- KEY_20 (R95): in SCT_DEFAULT plain 0x33, shifted 0x23. -/
def execKey20 (pos : KeyPlace) (s : State) : Outcome :=
  accept none (State.decodeFrame (keyFrame 0x20 pos)) s

/-- KEY_21 (R95): in SCT_DEFAULT plain 0x34, shifted 0x24. -/
def execKey21 (pos : KeyPlace) (s : State) : Outcome :=
  accept none (State.decodeFrame (keyFrame 0x21 pos)) s

/-- KEY_22 (R95): in SCT_DEFAULT plain 0x35, shifted 0x25. -/
def execKey22 (pos : KeyPlace) (s : State) : Outcome :=
  accept none (State.decodeFrame (keyFrame 0x22 pos)) s

/-- KEY_23 (R95): in SCT_DEFAULT plain 0x36, shifted 0x5E. -/
def execKey23 (pos : KeyPlace) (s : State) : Outcome :=
  accept none (State.decodeFrame (keyFrame 0x23 pos)) s

/-- KEY_24 (R95): in SCT_DEFAULT plain 0x37, shifted 0x26. -/
def execKey24 (pos : KeyPlace) (s : State) : Outcome :=
  accept none (State.decodeFrame (keyFrame 0x24 pos)) s

/-- KEY_25 (R95): in SCT_DEFAULT plain 0x38, shifted 0x2A. -/
def execKey25 (pos : KeyPlace) (s : State) : Outcome :=
  accept none (State.decodeFrame (keyFrame 0x25 pos)) s

/-- KEY_26 (R95): in SCT_DEFAULT plain 0x39, shifted 0x28. -/
def execKey26 (pos : KeyPlace) (s : State) : Outcome :=
  accept none (State.decodeFrame (keyFrame 0x26 pos)) s

/-- KEY_27 (R95): in SCT_DEFAULT plain 0x30, shifted 0x29. -/
def execKey27 (pos : KeyPlace) (s : State) : Outcome :=
  accept none (State.decodeFrame (keyFrame 0x27 pos)) s

/-- KEY_28 (R95): in SCT_DEFAULT plain 0x0A, shifted 0x0A. -/
def execKey28 (pos : KeyPlace) (s : State) : Outcome :=
  accept none (State.decodeFrame (keyFrame 0x28 pos)) s

/-- KEY_29 (R95): in SCT_DEFAULT plain 0x1B, shifted 0x1B. -/
def execKey29 (pos : KeyPlace) (s : State) : Outcome :=
  accept none (State.decodeFrame (keyFrame 0x29 pos)) s

/-- KEY_2A (R95): in SCT_DEFAULT plain 0x08, shifted 0x08. -/
def execKey2A (pos : KeyPlace) (s : State) : Outcome :=
  accept none (State.decodeFrame (keyFrame 0x2A pos)) s

/-- KEY_2B (R95): in SCT_DEFAULT plain 0x09, shifted 0x09. -/
def execKey2B (pos : KeyPlace) (s : State) : Outcome :=
  accept none (State.decodeFrame (keyFrame 0x2B pos)) s

/-- KEY_2C (R95): in SCT_DEFAULT plain 0x20, shifted 0x20. -/
def execKey2C (pos : KeyPlace) (s : State) : Outcome :=
  accept none (State.decodeFrame (keyFrame 0x2C pos)) s

/-- KEY_2D (R95): in SCT_DEFAULT plain 0x5F, shifted 0x5F. -/
def execKey2D (pos : KeyPlace) (s : State) : Outcome :=
  accept none (State.decodeFrame (keyFrame 0x2D pos)) s

/-- KEY_2E (R95): in SCT_DEFAULT plain 0x3D, shifted 0x2B. -/
def execKey2E (pos : KeyPlace) (s : State) : Outcome :=
  accept none (State.decodeFrame (keyFrame 0x2E pos)) s

/-- KEY_2F (R95): in SCT_DEFAULT plain 0x5B, shifted 0x7B. -/
def execKey2F (pos : KeyPlace) (s : State) : Outcome :=
  accept none (State.decodeFrame (keyFrame 0x2F pos)) s

/-- KEY_30 (R95): in SCT_DEFAULT plain 0x5D, shifted 0x7D. -/
def execKey30 (pos : KeyPlace) (s : State) : Outcome :=
  accept none (State.decodeFrame (keyFrame 0x30 pos)) s

/-- KEY_31 (R95): in SCT_DEFAULT plain 0x5C, shifted 0x7C. -/
def execKey31 (pos : KeyPlace) (s : State) : Outcome :=
  accept none (State.decodeFrame (keyFrame 0x31 pos)) s

/-- KEY_32 (R95): in SCT_DEFAULT plain 0x23, shifted 0x7E. -/
def execKey32 (pos : KeyPlace) (s : State) : Outcome :=
  accept none (State.decodeFrame (keyFrame 0x32 pos)) s

/-- KEY_33 (R95): in SCT_DEFAULT plain 0x3B, shifted 0x3A. -/
def execKey33 (pos : KeyPlace) (s : State) : Outcome :=
  accept none (State.decodeFrame (keyFrame 0x33 pos)) s

/-- KEY_34 (R95): in SCT_DEFAULT plain 0x27, shifted 0x22. -/
def execKey34 (pos : KeyPlace) (s : State) : Outcome :=
  accept none (State.decodeFrame (keyFrame 0x34 pos)) s

/-- KEY_35 (R95): in SCT_DEFAULT plain 0x60, shifted 0x7E. -/
def execKey35 (pos : KeyPlace) (s : State) : Outcome :=
  accept none (State.decodeFrame (keyFrame 0x35 pos)) s

/-- KEY_36 (R95): in SCT_DEFAULT plain 0x2C, shifted 0x3C. -/
def execKey36 (pos : KeyPlace) (s : State) : Outcome :=
  accept none (State.decodeFrame (keyFrame 0x36 pos)) s

/-- KEY_37 (R95): in SCT_DEFAULT plain 0x2E, shifted 0x3E. -/
def execKey37 (pos : KeyPlace) (s : State) : Outcome :=
  accept none (State.decodeFrame (keyFrame 0x37 pos)) s

/-- KEY_38 (R95): in SCT_DEFAULT plain 0x2F, shifted 0x3F. -/
def execKey38 (pos : KeyPlace) (s : State) : Outcome :=
  accept none (State.decodeFrame (keyFrame 0x38 pos)) s

/-- KEY_64 (R95): in SCT_DEFAULT plain 0x5C, shifted 0x7C. -/
def execKey64 (pos : KeyPlace) (s : State) : Outcome :=
  accept none (State.decodeFrame (keyFrame 0x64 pos)) s

/-- KEY_NO_KEY (R112): filtered out, never looked up. -/
def execKeyNoKey (pos : KeyPlace) (s : State) : Outcome :=
  accept none (State.decodeFrame (keyFrame 0x00 pos)) s

/-- KEY_SHIFT_MARKER (R111, R112): filtered out at every position; in byte 0 it sets SHIFT. -/
def execKeyShiftMarker (pos : KeyPlace) (s : State) : Outcome :=
  accept none (State.decodeFrame (keyFrame 0x02 pos)) s

/-- KEY_UNKNOWN (60_exceptions.md R171): looked up like any keycode; without an entry, Empty and LookupFailure(k). -/
def execKeyUnknown (k : Byte) (pos : KeyPlace) (s : State) : Outcome :=
  accept none (State.decodeFrame (keyFrame k pos)) s

end Sys2Proof.Machine
end

