-- ==== Sys2Proof/Machine/Unassigned.lean ====
section
/-! DEFINITION. The unassigned OP codes 0xA to 0xF: refused with BadOp (30_encoding.md R81, 60_exceptions.md R174). The
refusal is the result the core returns; nothing else happens. -/

namespace Sys2Proof.Machine

/-- OP code 0xA (R174). -/
def execOpUnassignedA (s : State) : Outcome := accept (some .badOp) (fun s1 => s1) s

/-- OP code 0xB (R174). -/
def execOpUnassignedB (s : State) : Outcome := accept (some .badOp) (fun s1 => s1) s

/-- OP code 0xC (R174). -/
def execOpUnassignedC (s : State) : Outcome := accept (some .badOp) (fun s1 => s1) s

/-- OP code 0xD (R174). -/
def execOpUnassignedD (s : State) : Outcome := accept (some .badOp) (fun s1 => s1) s

/-- OP code 0xE (R174). -/
def execOpUnassignedE (s : State) : Outcome := accept (some .badOp) (fun s1 => s1) s

/-- OP code 0xF (R174). -/
def execOpUnassignedF (s : State) : Outcome := accept (some .badOp) (fun s1 => s1) s

end Sys2Proof.Machine
end

