-- ==== Sys2Proof/Machine/Dispatch.lean ====
section
/-! DEFINITION. exec: one arm per constructor of Instr, one meaning per arm. -/

namespace Sys2Proof.Machine

def exec (i : Instr) (s : State) : Host.Outcome State Fault Refusal :=
  match i with
  | .lookup k => Sys2Proof.Machine.execLookup k s
  | .decodeFrame frame => Sys2Proof.Machine.execDecodeFrame frame s
  | .decodeScan bytes => Sys2Proof.Machine.execDecodeScan bytes s
  | .writeNibble n m => Sys2Proof.Machine.execWriteNibble n m s
  | .writeByte v m => Sys2Proof.Machine.execWriteByte v m s
  | .init => Sys2Proof.Machine.execInit s
  | .writeString text line => Sys2Proof.Machine.execWriteString text line s
  | .defineGlyph slot bitmap => Sys2Proof.Machine.execDefineGlyph slot bitmap s
  | .showProduct title price => Sys2Proof.Machine.execShowProduct title price s
  | .showNotFound => Sys2Proof.Machine.execShowNotFound s
  | .opUnassignedA => Sys2Proof.Machine.execOpUnassignedA s
  | .opUnassignedB => Sys2Proof.Machine.execOpUnassignedB s
  | .opUnassignedC => Sys2Proof.Machine.execOpUnassignedC s
  | .opUnassignedD => Sys2Proof.Machine.execOpUnassignedD s
  | .opUnassignedE => Sys2Proof.Machine.execOpUnassignedE s
  | .opUnassignedF => Sys2Proof.Machine.execOpUnassignedF s
  | .key04 pos => Sys2Proof.Machine.execKey04 pos s
  | .key05 pos => Sys2Proof.Machine.execKey05 pos s
  | .key06 pos => Sys2Proof.Machine.execKey06 pos s
  | .key07 pos => Sys2Proof.Machine.execKey07 pos s
  | .key08 pos => Sys2Proof.Machine.execKey08 pos s
  | .key09 pos => Sys2Proof.Machine.execKey09 pos s
  | .key0A pos => Sys2Proof.Machine.execKey0A pos s
  | .key0B pos => Sys2Proof.Machine.execKey0B pos s
  | .key0C pos => Sys2Proof.Machine.execKey0C pos s
  | .key0D pos => Sys2Proof.Machine.execKey0D pos s
  | .key0E pos => Sys2Proof.Machine.execKey0E pos s
  | .key0F pos => Sys2Proof.Machine.execKey0F pos s
  | .key10 pos => Sys2Proof.Machine.execKey10 pos s
  | .key11 pos => Sys2Proof.Machine.execKey11 pos s
  | .key12 pos => Sys2Proof.Machine.execKey12 pos s
  | .key13 pos => Sys2Proof.Machine.execKey13 pos s
  | .key14 pos => Sys2Proof.Machine.execKey14 pos s
  | .key15 pos => Sys2Proof.Machine.execKey15 pos s
  | .key16 pos => Sys2Proof.Machine.execKey16 pos s
  | .key17 pos => Sys2Proof.Machine.execKey17 pos s
  | .key18 pos => Sys2Proof.Machine.execKey18 pos s
  | .key19 pos => Sys2Proof.Machine.execKey19 pos s
  | .key1A pos => Sys2Proof.Machine.execKey1A pos s
  | .key1B pos => Sys2Proof.Machine.execKey1B pos s
  | .key1C pos => Sys2Proof.Machine.execKey1C pos s
  | .key1D pos => Sys2Proof.Machine.execKey1D pos s
  | .key1E pos => Sys2Proof.Machine.execKey1E pos s
  | .key1F pos => Sys2Proof.Machine.execKey1F pos s
  | .key20 pos => Sys2Proof.Machine.execKey20 pos s
  | .key21 pos => Sys2Proof.Machine.execKey21 pos s
  | .key22 pos => Sys2Proof.Machine.execKey22 pos s
  | .key23 pos => Sys2Proof.Machine.execKey23 pos s
  | .key24 pos => Sys2Proof.Machine.execKey24 pos s
  | .key25 pos => Sys2Proof.Machine.execKey25 pos s
  | .key26 pos => Sys2Proof.Machine.execKey26 pos s
  | .key27 pos => Sys2Proof.Machine.execKey27 pos s
  | .key28 pos => Sys2Proof.Machine.execKey28 pos s
  | .key29 pos => Sys2Proof.Machine.execKey29 pos s
  | .key2A pos => Sys2Proof.Machine.execKey2A pos s
  | .key2B pos => Sys2Proof.Machine.execKey2B pos s
  | .key2C pos => Sys2Proof.Machine.execKey2C pos s
  | .key2D pos => Sys2Proof.Machine.execKey2D pos s
  | .key2E pos => Sys2Proof.Machine.execKey2E pos s
  | .key2F pos => Sys2Proof.Machine.execKey2F pos s
  | .key30 pos => Sys2Proof.Machine.execKey30 pos s
  | .key31 pos => Sys2Proof.Machine.execKey31 pos s
  | .key32 pos => Sys2Proof.Machine.execKey32 pos s
  | .key33 pos => Sys2Proof.Machine.execKey33 pos s
  | .key34 pos => Sys2Proof.Machine.execKey34 pos s
  | .key35 pos => Sys2Proof.Machine.execKey35 pos s
  | .key36 pos => Sys2Proof.Machine.execKey36 pos s
  | .key37 pos => Sys2Proof.Machine.execKey37 pos s
  | .key38 pos => Sys2Proof.Machine.execKey38 pos s
  | .key64 pos => Sys2Proof.Machine.execKey64 pos s
  | .keyNoKey pos => Sys2Proof.Machine.execKeyNoKey pos s
  | .keyShiftMarker pos => Sys2Proof.Machine.execKeyShiftMarker pos s
  | .keyUnknown k pos => Sys2Proof.Machine.execKeyUnknown k pos s
  | .init33 => Sys2Proof.Machine.execInit33 s
  | .init32 => Sys2Proof.Machine.execInit32 s
  | .init06 => Sys2Proof.Machine.execInit06 s
  | .init0C => Sys2Proof.Machine.execInit0C s
  | .init28 => Sys2Proof.Machine.execInit28 s
  | .init01 => Sys2Proof.Machine.execInit01 s
  | .lineAddr0 => Sys2Proof.Machine.execLineAddr0 s
  | .lineAddr1 => Sys2Proof.Machine.execLineAddr1 s
  | .lineAddr2 => Sys2Proof.Machine.execLineAddr2 s
  | .lineAddr3 => Sys2Proof.Machine.execLineAddr3 s
  | .cgramAddr slot => Sys2Proof.Machine.execCgramAddr slot s
  | .char c => Sys2Proof.Machine.execChar c s
  | .busSetup n b m => Sys2Proof.Machine.execBusSetup n b m s
  | .busStrobe n b m => Sys2Proof.Machine.execBusStrobe n b m s

end Sys2Proof.Machine
end

