-- ==== Sys2Proof/Machine/Step.lean ====
section
/-! DEFINITION. One step: the oldest request of the host is taken, decoded and run to completion; with nothing requested
the core is idle (10_state.md R34, 60_exceptions.md R184, R185; Log 18). -/

namespace Sys2Proof.Machine

/-- One step of the machine. -/
def step (s : State) : Host.Outcome State Fault Refusal :=
  match s.fetch with
  | .idle => .next s.idled
  | .instr i s1 => exec i s1
  | .noSuchRow s1 => .next s1.refuseBadOp
  | .illFramed e => .fault (.illFramed e)

/-- `s` with the table word `w` as the host's oldest request, its operand bytes all 0, made while the core is idle: the
very next step runs it (Log 4, 19). -/
def State.withFetchWord (s : State) (nbits w : Nat) : State :=
  { s with
    requests :=
      { format := (tableWordBytes nbits w).1, bytes := (tableWordBytes nbits w).2, during := false } :: s.requests }

end Sys2Proof.Machine
end

