-- ==== Sys2Proof/Machine/Picture.lean ====
section
/-! DEFINITION. What the display shows, as far as the receiver reference says it (60_exceptions.md R193, R195; Log 12, 28).
No step reads any of it. -/

namespace Sys2Proof.Machine

/-- The glyph slot that a character code shows (R195): codes 0 to 7 the slots 0 to 7, codes 8 to 15 the same eight again. -/
def glyphSlot (c : Byte) : Option (BitVec 3) := if c.toNat < 16 then some (c.setWidth 3) else none

/-- The five dots of a glyph row from left to right (R195): bits 4 to 0; bits 7 to 5 are unused. -/
def rowDots (b : Byte) : Vector Bool 5 := #v[b.getLsbD 4, b.getLsbD 3, b.getLsbD 2, b.getLsbD 1, b.getLsbD 0]

/-- Row `r` of a slot from the top (R195): byte `8 slot + r` of glyph memory, if it is known. Row 7 is the cursor row. -/
def Display.glyphRow (d : Display) (slot r : BitVec 3) : Option (Vector Bool 5) :=
  (d.cgram.read (8 * slot.toNat + r.toNat)).map rowDots

/-- What one display cell shows. -/
inductive Shown where
  | glyph (rows : Vector (Option (Vector Bool 5)) 8)  -- a slot's eight rows from the top
  | rom (c : Byte)                                    -- the character that the controller's ROM has for this code
  | notGiven (c : Byte)                               -- a code of which the reference says nothing
  deriving DecidableEq, Repr

/-- What a cell that holds this character code shows (R195): its glyph slot as it now is, or for 0x20 to 0x7F a character of
the ROM, whose picture depends on the ROM (Log 28). -/
def Display.shows (d : Display) (c : Byte) : Shown :=
  match glyphSlot c with
  | some slot => .glyph #v[d.glyphRow slot 0, d.glyphRow slot 1, d.glyphRow slot 2, d.glyphRow slot 3, d.glyphRow slot 4,
      d.glyphRow slot 5, d.glyphRow slot 6, d.glyphRow slot 7]
  | none => if 0x20 ≤ c.toNat ∧ c.toNat < 0x80 then .rom c else .notGiven c

/-- What the display-memory cell at an address shows, if its character code is known (R195, which asks for no N and no F;
Log 31). -/
def Display.cellShows (d : Display) (a : Nat) : Option Shown := (d.ddram.read a).map d.shows

/-- The two panels of R193. -/
inductive Panel where
  | twoBySixteen   -- 16×2
  | fourByTwenty   -- 20×4
  deriving DecidableEq, Repr

/-- The display-memory addresses of a panel's rows, top row first, while the display is not shifted (R193). -/
def Panel.rows : Panel → List (List Nat)
  | .twoBySixteen => [List.range' 0x00 16, List.range' 0x40 16]
  | .fourByTwenty => [List.range' 0x00 20, List.range' 0x40 20, List.range' 0x14 20, List.range' 0x54 20]

/-- What a panel shows. -/
inductive Picture where
  | off                                      -- display control D = 0: nothing
  | on (rows : List (List (Option Shown)))   -- its rows, cell by cell
  | notKnown                                 -- D is not known, or it may be shifted (Log 30), or not N = 1, F = 0 (Log 31)
  deriving DecidableEq, Repr

/-- What a panel shows (R193): with D = 1 the cells of its rows' addresses, if the display is not shifted. R193 names the fields
N and F and says of no value what it does to the rows; they are taken to be two lines of 5×8 characters with N = 1 and F = 0,
as INIT sets them, and with any other or unknown N or F the picture is not known (Log 31). -/
def Display.picture (d : Display) (p : Panel) : Picture :=
  match d.displayOn, d.offset, d.twoLines, d.fiveByTen with
  | some false, _, _, _ => .off
  | some true, some 0, some true, some false => .on (p.rows.map (fun row => row.map d.cellShows))
  | _, _, _, _ => .notKnown

end Sys2Proof.Machine
end

