-- ==== Sys2Proof/Machine/Restart.lean ====
section
/-! DEFINITION. Events from outside the core that are no request: a restart of the core, which is its construction again
(70_reset_and_hazards.md R200), and a power-up of the display (R203). No step takes them; a claim applies them to a state
(Log 25). -/

namespace Sys2Proof.Machine

/-- A restart of the core with the values given at construction (R200): every value of the core is that of
10_state.md R33; the bus target keeps what it holds, since it is not reset with the core (R203), and the bus goes on
answering. An operation requested before INIT then has the effect on the target that the receiver reference gives it, where
93 U10 has any value (Log 32). -/
def State.restart (cfg : CoreConfig) (s : State) : State :=
  { State.reset with
    cfg := cfg
    lines := s.lines
    display := s.display
    answers := s.answers
    busCount := s.busCount }

/-- The display itself is powered up (R203): its controller is in its power-on state, of which the receiver reference gives
the 8-bit interface and nothing more (60_exceptions.md R192). The expander is another chip and keeps its byte. Operations
before INIT are followed from there by the receiver reference, where 93 U10 has any value (Log 32). -/
def State.displayPoweredUp (s : State) : State := { s with display := some (Display.unknown .eight) }

end Sys2Proof.Machine
end

