-- ==== Sys2Proof/Safety.lean ====
section
/-! DEFINITION. The words the claims are stated in: what a trace is said to be by the spec's own tables and sentences,
written apart from the meanings (bytes by addition, 30_encoding.md R76 (d); lines and frames by index), the invariant, the
streaming decoder (41_hid_decoder.md R120) and the observer's measures of a trace. -/

namespace Sys2Proof.Machine

/-! The bus. -/

/-- The environment's answer to the `j`-th coming bus write (60_exceptions.md R188). -/
def State.answerAt (s : State) (j : Nat) : Bool := s.answers.getD j (Config.busAnswer (s.busCount + j))

/-- The next `n` bus writes succeed. -/
def State.nextSucceed (s : State) (n : Nat) : Prop := ∀ j, j < n → s.answerAt j = true

/-- What comes of a planned trace under given answers, `i` writes having succeeded before it: it stops at the first
failing write, whose event is F(b) (60_exceptions.md R173). -/
def issue (ans : Nat → Bool) : Nat → List Event → List Event × Result
  | _, [] => ([], .ok)
  | i, .w a b :: es =>
    if ans i then (.w a b :: (issue ans (i + 1) es).1, (issue ans (i + 1) es).2)
    else ([.f a b], .busFailure b i)
  | i, e :: es => (e :: (issue ans i es).1, (issue ans i es).2)

/-- The event is a bus write, successful or not. -/
def Event.isBus : Event → Bool
  | .w _ _ | .f _ _ => true
  | .d _ => false

/-- The event is a successful bus write. -/
def Event.isWrite : Event → Bool
  | .w _ _ => true
  | .f _ _ | .d _ => false

/-- The byte of a bus event. -/
def Event.byte : Event → Option Byte
  | .w _ b | .f _ b => some b
  | .d _ => none

/-- The bytes delivered, in order. -/
def delivered : List Event → List Byte
  | [] => []
  | .w _ b :: es => b :: delivered es
  | .f _ _ :: es => delivered es
  | .d _ :: es => delivered es

/-- The delays of one kind in a trace (42_display_driver.md R140). -/
def delaysOf (k : DelayKind) (es : List Event) : Nat := es.count (.d k)

/-- The least duration of a trace in nanoseconds, without the bus transactions' own time (70_reset_and_hazards.md R220). -/
def leastDuration (cfg : CoreConfig) (es : List Event) : Nat :=
  delaysOf .settle es * cfg.tSettle + delaysOf .pulse es * cfg.tPulse

/-- The events a step or an operation added to the trace. -/
def newEvents (s t : State) : List Event := t.trace.drop s.trace.length

/-! The traces of the driver's operations, written from 42_display_driver.md. -/

/-- The bus byte with the enable line low: `16 n + 8 BACKLIGHT + mode` (30_encoding.md R64, R66, R76 (d)). -/
def lowByte (cfg : CoreConfig) (n : Nat) (m : Mode) : Byte :=
  BitVec.ofNat 8 (16 * n + (if cfg.backlight then 8 else 0) + (match m with | .command => 0 | .character => 1))

/-- `W(b) S W(b+4) P W(b) S`, and `W(b)` once more under NIBBLE_TRAILING_WRITE (R131, R132, R141). -/
def sentNibble (cfg : CoreConfig) (n : Nat) (m : Mode) : List Event :=
  let b := lowByte cfg n m
  let a := cfg.busAddr
  [.w a b, .d .settle, .w a (b + 4), .d .pulse, .w a b, .d .settle] ++
    (if cfg.nibbleTrailingWrite then [.w a b] else [])

/-- The high nibble, then the low nibble (R133). -/
def sentByte (cfg : CoreConfig) (m : Mode) (v : Byte) : List Event :=
  sentNibble cfg (v.toNat / 16) m ++ sentNibble cfg (v.toNat % 16) m

/-- Several bytes, in order. -/
def sentBytes (cfg : CoreConfig) (m : Mode) (vs : List Byte) : List Event := vs.flatMap (sentByte cfg m)

/-- `line16` by index (30_encoding.md R73). -/
def displayLine (text : List Byte) : List Byte := (List.range 16).map (fun i => text.getD i 0x20)

/-- WRITE_STRING's trace (R136). -/
def sentLine (cfg : CoreConfig) (address : Byte) (text : List Byte) : List Event :=
  sentByte cfg .command address ++ sentBytes cfg .character (displayLine text)

/-- The four line-address bytes (30_encoding.md R68). -/
def lineAddresses : List Byte := [0x80, 0xC0, 0x94, 0xD4]

/-- The core's state but for its bookkeeping of the operation is as it was: FRAME, SHIFT, RESULT, the configuration, and
that no operation is in progress; and the host's queue is as it was. -/
def KeepsCore (s t : State) : Prop :=
  t.frame = s.frame ∧ t.shift = s.shift ∧ t.result = s.result ∧ t.cfg = s.cfg ∧ t.inProgress = s.inProgress ∧
    t.requests = s.requests

/-- Executed in `s`, the instruction answers a next state in which it has issued the planned events, as far as the bus
lets it, returned Ok or BusFailure accordingly, and left the rest of the core as it was. -/
def SendsExactly (i : Instr) (s : State) (planned : List Event) : Prop :=
  let out := issue s.answerAt 0 planned
  ∃ t, exec i s = .next t ∧ t.trace = s.trace ++ out.1 ∧ t.results = s.results ++ [out.2] ∧
    t.fi = 0 ∧ t.seqStep = out.1.length ∧ t.opWrites = out.1.countP Event.isWrite ∧
    t.answers = s.answers.drop (out.1.countP Event.isBus) ∧ t.busCount = s.busCount + out.1.countP Event.isBus ∧
    KeepsCore s t

/-- `t` is `s` after an operation that returned `r`, used no bus and kept every other part of the state but FRAME, SHIFT
and FI, which are as given. -/
def afterDecoder (s : State) (f : Frame) (shift : Bool) (fi : Nat) (r : Result) : State :=
  { s with frame := f, shift := shift, fi := fi, seqStep := 0, opWrites := 0, results := s.results ++ [r] }

/-- The result an instruction returns. -/
def returned (i : Instr) (s : State) : Option Result :=
  match exec i s with
  | .next t => t.results.getLast?
  | _ => none

/-! The decoder, by index. -/

/-- The value and the report of an 8-byte frame given as a list (41_hid_decoder.md R111 to R113): a character, or Empty
with or without a LookupFailure. -/
def frameMeaning (sct : List KeycodeEntry) (frame : List Byte) : FrameValue × Option Byte :=
  match frame.find? (fun b => decide (b ≠ 0x00#8 ∧ b ≠ 0x02#8)) with
  | none => (.empty, none)
  | some k =>
    match sct.find? (fun e => e.keycode == k) with
    | none => (.empty, some k)
    | some e => (.char (if frame.head? = some 0x02#8 then e.shifted else e.plain), none)

/-- The frame a KEYCODE row is executed in (Log 2), as a list: zeros, byte 0 the shift marker or not, the keycode at `pos`. -/
def keyFrameBytes (k : Byte) (pos : BitVec 3) (shifted : Bool) : List Byte :=
  ((List.replicate 8 0x00#8).set 0 (if shifted then 0x02#8 else 0x00#8)).set pos.toNat k

/-- Frame `i` of an input: bytes `8i` to `8i+7` (20_memory.md R46). -/
def frameAt (bytes : List Byte) (i : Nat) : List Byte := (bytes.drop (8 * i)).take 8

/-- The characters of all frames, in frame order (41_hid_decoder.md R116). -/
def scanChars (sct : List KeycodeEntry) (bytes : List Byte) : List Byte :=
  (List.range (bytes.length / 8)).filterMap (fun i =>
    match (frameMeaning sct (frameAt bytes i)).1 with
    | .char c => some c
    | .empty => none)

/-- The LookupFailure reports `(FI, k)`, in frame order (41_hid_decoder.md R119). -/
def scanReports (sct : List KeycodeEntry) (bytes : List Byte) : List (Nat × Byte) :=
  (List.range (bytes.length / 8)).filterMap (fun i =>
    (frameMeaning sct (frameAt bytes i)).2.map (fun k => (i, k)))

/-- The string before the first newline, or NoResult (41_hid_decoder.md R117, R118). -/
def stringBefore (chars : List Byte) : ScanValue :=
  let cut := chars.take (chars.idxOf 0x0A#8)
  if cut = [] then .noResult else .str cut

/-- The streaming form's state: RESULT so far and DONE (41_hid_decoder.md R120). -/
structure Stream where
  result  : List Byte
  done    : Bool
  reports : List (Nat × Byte)
  deriving DecidableEq, Repr

/-- One frame of the streaming form (41_hid_decoder.md R120). -/
def streamFrame (sct : List KeycodeEntry) (st : Stream) (i : Nat) (frame : List Byte) : Stream :=
  match frameMeaning sct frame with
  | (.char c, _) =>
    if st.done then st
    else if c = 0x0A#8 then { st with done := true }
    else { st with result := st.result ++ [c] }
  | (.empty, some k) => { st with reports := st.reports ++ [(i, k)] }
  | (.empty, none) => st

/-- The streaming form over the frames of an input, one at a time. -/
def streamScan (sct : List KeycodeEntry) (bytes : List Byte) : Stream :=
  (List.range (bytes.length / 8)).foldl (fun st i => streamFrame sct st i (frameAt bytes i)) ⟨[], false, []⟩

/-- The end of a scan in the streaming form. -/
def streamValue (st : Stream) : ScanValue := if st.result = [] then .noResult else .str st.result

/-! The tables. -/

/-- No two rows have the same keycode (40_scancode_table.md R93 (h)). -/
def UniqueKeys (sct : List KeycodeEntry) : Prop := (sct.map (fun e => e.keycode)).Nodup

/-- The eleven punctuation pairs (40_scancode_table.md R92). -/
def punctuationPairs : List (Byte × Byte) :=
  [(0x3D, 0x2B), (0x5B, 0x7B), (0x5D, 0x7D), (0x5C, 0x7C), (0x3B, 0x3A), (0x27, 0x22), (0x2C, 0x3C), (0x2E, 0x3E),
   (0x2F, 0x3F), (0x60, 0x7E), (0x23, 0x7E)]

/-- The ten symbols over the digits (40_scancode_table.md R92). -/
def digitSymbols : List Byte := [0x21, 0x40, 0x23, 0x24, 0x25, 0x5E, 0x26, 0x2A, 0x28, 0x29]

/-- The constraints every admissible table satisfies, (a) to (h) of 40_scancode_table.md R93. Of (f), Enter's plain character is
newline; the other five characters need a keycode only, so either column may carry them (`-`/`_` on one key, R97). -/
structure Admissible (sct : List KeycodeEntry) : Prop where
  keyFour     : ∃ e ∈ sct, e.keycode = 0x04 ∧ e.plain = 0x61
  keyFive     : ∃ e ∈ sct, e.keycode = 0x05 ∧ e.shifted = 0x42
  letters     : ∀ j, j < 26 → ∃ e ∈ sct, e.plain = BitVec.ofNat 8 (0x61 + j) ∧ e.shifted = BitVec.ofNat 8 (0x41 + j)
  digits      : ∃ rows : List KeycodeEntry, rows.length = 10 ∧ (∀ e ∈ rows, e ∈ sct) ∧
                  rows.map (fun e => e.plain) = (List.range 10).map (fun d => BitVec.ofNat 8 (0x30 + d)) ∧
                  List.Perm (rows.map (fun e => e.shifted)) digitSymbols
  punctuation : ∀ p ∈ punctuationPairs, ∃ e ∈ sct, (e.plain, e.shifted) = p
  enter       : ∃ e ∈ sct, e.plain = 0x0A
  controls    : ∀ c ∈ ([0x1B, 0x08, 0x09, 0x20, 0x5F] : List Byte), ∃ e ∈ sct, e.plain = c ∨ e.shifted = c
  sharedPair  : ∃ e1 ∈ sct, ∃ e2 ∈ sct, e1.keycode ≠ e2.keycode ∧ (e1.plain, e1.shifted) = (e2.plain, e2.shifted) ∧
                  (e1.plain, e1.shifted) ∈ punctuationPairs
  unique      : UniqueKeys sct

/-- A KEYCODE row with its columns, as the opcode table has them. -/
structure KeyRow where
  instr   : KeyPlace → Instr
  keycode : Byte
  plain   : Byte
  shifted : Byte

/-- The letters' rows. -/
def letterRows : List KeyRow :=
  [⟨Instr.key04, 0x04, 0x61, 0x41⟩, ⟨Instr.key05, 0x05, 0x62, 0x42⟩,
   ⟨Instr.key06, 0x06, 0x63, 0x43⟩, ⟨Instr.key07, 0x07, 0x64, 0x44⟩,
   ⟨Instr.key08, 0x08, 0x65, 0x45⟩, ⟨Instr.key09, 0x09, 0x66, 0x46⟩,
   ⟨Instr.key0A, 0x0A, 0x67, 0x47⟩, ⟨Instr.key0B, 0x0B, 0x68, 0x48⟩,
   ⟨Instr.key0C, 0x0C, 0x69, 0x49⟩, ⟨Instr.key0D, 0x0D, 0x6A, 0x4A⟩,
   ⟨Instr.key0E, 0x0E, 0x6B, 0x4B⟩, ⟨Instr.key0F, 0x0F, 0x6C, 0x4C⟩,
   ⟨Instr.key10, 0x10, 0x6D, 0x4D⟩, ⟨Instr.key11, 0x11, 0x6E, 0x4E⟩,
   ⟨Instr.key12, 0x12, 0x6F, 0x4F⟩, ⟨Instr.key13, 0x13, 0x70, 0x50⟩,
   ⟨Instr.key14, 0x14, 0x71, 0x51⟩, ⟨Instr.key15, 0x15, 0x72, 0x52⟩,
   ⟨Instr.key16, 0x16, 0x73, 0x53⟩, ⟨Instr.key17, 0x17, 0x74, 0x54⟩,
   ⟨Instr.key18, 0x18, 0x75, 0x55⟩, ⟨Instr.key19, 0x19, 0x76, 0x56⟩,
   ⟨Instr.key1A, 0x1A, 0x77, 0x57⟩, ⟨Instr.key1B, 0x1B, 0x78, 0x58⟩,
   ⟨Instr.key1C, 0x1C, 0x79, 0x59⟩, ⟨Instr.key1D, 0x1D, 0x7A, 0x5A⟩]

/-- The digits' rows. -/
def numberRows : List KeyRow :=
  [⟨Instr.key1E, 0x1E, 0x31, 0x21⟩, ⟨Instr.key1F, 0x1F, 0x32, 0x40⟩,
   ⟨Instr.key20, 0x20, 0x33, 0x23⟩, ⟨Instr.key21, 0x21, 0x34, 0x24⟩,
   ⟨Instr.key22, 0x22, 0x35, 0x25⟩, ⟨Instr.key23, 0x23, 0x36, 0x5E⟩,
   ⟨Instr.key24, 0x24, 0x37, 0x26⟩, ⟨Instr.key25, 0x25, 0x38, 0x2A⟩,
   ⟨Instr.key26, 0x26, 0x39, 0x28⟩, ⟨Instr.key27, 0x27, 0x30, 0x29⟩]

/-- The other rows. -/
def otherRows : List KeyRow :=
  [⟨Instr.key28, 0x28, 0x0A, 0x0A⟩, ⟨Instr.key29, 0x29, 0x1B, 0x1B⟩,
   ⟨Instr.key2A, 0x2A, 0x08, 0x08⟩, ⟨Instr.key2B, 0x2B, 0x09, 0x09⟩,
   ⟨Instr.key2C, 0x2C, 0x20, 0x20⟩, ⟨Instr.key2D, 0x2D, 0x5F, 0x5F⟩,
   ⟨Instr.key2E, 0x2E, 0x3D, 0x2B⟩, ⟨Instr.key2F, 0x2F, 0x5B, 0x7B⟩,
   ⟨Instr.key30, 0x30, 0x5D, 0x7D⟩, ⟨Instr.key31, 0x31, 0x5C, 0x7C⟩,
   ⟨Instr.key32, 0x32, 0x23, 0x7E⟩, ⟨Instr.key33, 0x33, 0x3B, 0x3A⟩,
   ⟨Instr.key34, 0x34, 0x27, 0x22⟩, ⟨Instr.key35, 0x35, 0x60, 0x7E⟩,
   ⟨Instr.key36, 0x36, 0x2C, 0x3C⟩, ⟨Instr.key37, 0x37, 0x2E, 0x3E⟩,
   ⟨Instr.key38, 0x38, 0x2F, 0x3F⟩, ⟨Instr.key64, 0x64, 0x5C, 0x7C⟩]

/-- The 54 rows of SCT_DEFAULT (40_scancode_table.md R95), all of them. -/
def keyRows : List KeyRow := letterRows ++ numberRows ++ otherRows

/-- The controller-byte rows, each with its byte and its mode (30_encoding.md R68 to R71). -/
def controllerRows (slot : BitVec 3) (c : Byte) : List (Instr × Byte × Mode) :=
  [(.init33, 0x33, .command), (.init32, 0x32, .command), (.init06, 0x06, .command), (.init0C, 0x0C, .command),
   (.init28, 0x28, .command), (.init01, 0x01, .command),
   (.lineAddr0, 0x80, .command), (.lineAddr1, 0xC0, .command), (.lineAddr2, 0x94, .command),
   (.lineAddr3, 0xD4, .command),
   (.cgramAddr slot, BitVec.ofNat 8 (0x40 + 8 * slot.toNat), .command), (.char c, c, .character)]

/-- The 18 command bytes of format CMD (30_encoding.md R68 to R70). -/
def commandWords : List Byte :=
  [0x33, 0x32, 0x06, 0x0C, 0x28, 0x01, 0x80, 0xC0, 0x94, 0xD4, 0x40, 0x48, 0x50, 0x58, 0x60, 0x68, 0x70, 0x78]

/-! The bus target. -/

/-- The five dots of a glyph row from left to right, by division: bits 4 to 0 (60_exceptions.md R195). -/
def dotsOf (b : Byte) : List Bool := (List.range 5).map (fun j => decide (b.toNat / 2 ^ (4 - j) % 2 = 1))

/-- The enable line is known to be low. -/
def State.enableIsLow (s : State) : Prop := ∃ b, s.lines = some b ∧ b.getLsbD 2 = false

/-- The controller is known to be in 4-bit mode between two bytes, with the enable line low. -/
def State.displayReady (s : State) (d : Display) : Prop :=
  s.display = some d ∧ d.iface = .four ∧ s.enableIsLow

/-- A sequence of bytes without immediate repetitions (42_display_driver.md R132, 95_test_vectors.md P6). -/
def distinctConsecutive : List Byte → List Byte
  | [] => []
  | [b] => [b]
  | b :: c :: rest => if b = c then distinctConsecutive (c :: rest) else b :: distinctConsecutive (c :: rest)

/-! The invariant. -/

/-- The controller's memories are in canonical form and hold only cells that exist (60_exceptions.md R193, R195). -/
def Display.inv (d : Display) : Prop :=
  Memory.wf 128 d.ddram = true ∧ Memory.wf 64 d.cgram = true ∧
    ∀ a b, (a, b) ∈ d.ddram → a < 0x28 ∨ (0x40 ≤ a ∧ a < 0x68)

/-- A result is one the core can return: a decoded string is not empty and holds no newline (41_hid_decoder.md R119). -/
def Result.inv : Result → Prop
  | .scan (.str s) _ => s ≠ [] ∧ 0x0A#8 ∉ s
  | _ => True

/-- The invariant of the machine: RESULT is empty between operations (10_state.md R24), no more writes succeeded than
events were issued, every bus byte has bit 1 clear and went to BUS_ADDR (30_encoding.md R65, 20_memory.md R42), every
result is one the core can return, and the controller's memories are in canonical form. -/
def State.Inv (s : State) : Prop :=
  s.result = [] ∧ s.opWrites ≤ s.seqStep ∧
    (∀ a b, (Event.w a b ∈ s.trace ∨ Event.f a b ∈ s.trace) → b.getLsbD 1 = false ∧ a = s.cfg.busAddr) ∧
    (∀ r ∈ s.results, Result.inv r) ∧
    (∀ d, s.display = some d → Display.inv d)

end Sys2Proof.Machine
end

