-- ==== Sys2Proof/Certificates/Slice0/Obligations.lean ====
section
/-! DEFINITION. The statements for the provers. Where a statement rests on a choice of the model or on a decision the
spec marks as its own, its docstring names the log entry or the decision. -/

open Sys2Proof Sys2Proof.Machine

/-! Reset and the invariant. -/

/-- 10_state.md section 12: the values the spec gives after reset; BACKLIGHT (D12) and NIBBLE_TRAILING_WRITE (D11) are
the spec's decisions, the table its default (D2). Says nothing of FRAME and SHIFT, which have no reset value (Log 7). -/
def Obligations.ResetLeavesTheCoreIdle : Prop :=
  let s := State.reset
  s.result = [] ∧ s.fi = 0 ∧ s.seqStep = 0 ∧ s.inProgress = false ∧ s.trace = [] ∧ s.results = [] ∧ s.requests = [] ∧
    s.lines = none ∧ s.display = none ∧ s.cfg.backlight = true ∧ s.cfg.nibbleTrailingWrite = false ∧
    s.cfg.sct = sctDefault ∧ 450 ≤ s.cfg.tPulse ∧ 600000 ≤ s.cfg.tSettle

/-- The invariant holds after reset. -/
def Obligations.ResetSatisfiesTheInvariant : Prop := State.reset.Inv

/-- Every step keeps the invariant: RESULT discarded (10 R24), bus bytes with bit 1 clear sent to BUS_ADDR (30 R65, D10;
20 R42), decoded strings non-empty and without the sentinel (41 R119), the controller's memories canonical (Log 12, 20). -/
def Obligations.EveryStepKeepsTheInvariant : Prop :=
  ∀ s t : State, s.Inv → step s = .next t → t.Inv

/-- The configuration and the tables are fixed at construction: no step changes them (10_state.md sections 5, 6). -/
def Obligations.NoStepChangesTheConfiguration : Prop :=
  ∀ s t : State, step s = .next t → t.cfg = s.cfg

/-- A restart of the core is its construction again with the values then given: the core is as after reset, and the bus
target, which is not reset with it, keeps its lines, interface, memories and modes; the invariant is kept. A power-up of the
display leaves the 8-bit interface and nothing known beside it, and changes nothing of the core (70_reset_and_hazards.md
section 1; D25; Log 12, 25, 32). -/
def Obligations.RestartKeepsTheTarget : Prop :=
  ∀ (cfg : CoreConfig) (s : State),
    let t := s.restart cfg
    t.lines = s.lines ∧ t.display = s.display ∧ t.cfg = cfg ∧ t.result = [] ∧ t.fi = 0 ∧ t.seqStep = 0 ∧
      t.inProgress = false ∧ t.trace = [] ∧ t.results = [] ∧ t.requests = [] ∧ (s.Inv → t.Inv) ∧
      s.displayPoweredUp = { s with display := some (Display.unknown .eight) } ∧ (s.Inv → s.displayPoweredUp.Inv) ∧
      State.reset.restart State.reset.cfg = State.reset

/-- Every instruction returns, with exactly one result, having only added events to the trace, and leaves the host's
queue, the configuration and the in-progress mark alone (60_exceptions.md sections 1 and 12). That it always returns rests
on every host primitive returning (60 R186 lists it as an assumption; Log 14); results and trace in State: Log 17, 22. -/
def Obligations.EveryInstructionReturnsOneResult : Prop :=
  ∀ (i : Instr) (s : State), ∃ t r, exec i s = .next t ∧ t.results = s.results ++ [r] ∧
    s.trace <+: t.trace ∧ t.cfg = s.cfg ∧ t.requests = s.requests ∧ t.inProgress = s.inProgress

/-! Encoding and the step. -/

/-- Decoding the encoding of a canonical instruction, whatever follows it, gives it back with every operand, and leaves
what follows. The byte layout of operands is the model's (Log 1). -/
def Obligations.DecodeOfEncodeIsTheInstruction : Prop :=
  ∀ (i : Instr) (rest : List Byte), i.canonical = true →
    decode (encode i).1 ((encode i).2 ++ rest) = .ok (i, rest)

/-- What the decoder gives is canonical, and the bytes read are its encoding and nothing else: no word without a row, and no
second spelling of an operand, is read as an instruction (Log 1). -/
def Obligations.DecodedInstructionsAreCanonical : Prop :=
  ∀ (fmt : Format) (bytes rest : List Byte) (i : Instr), decode fmt bytes = .ok (i, rest) →
    i.canonical = true ∧ (encode i).1 = fmt ∧ bytes = (encode i).2 ++ rest

/-- The words without a row: a command byte other than the 18 of format CMD, a bus byte with bit 1 set, an OP byte above the
4-bit codes. The decoder names each (30_encoding.md sections 1, 4, 6). -/
def Obligations.WordsWithoutARowAreRefused : Prop :=
  ∀ (w : Byte) (bs : List Byte),
    (w ∉ commandWords → decode .cmd (w :: bs) = .error (.noSuchRow .cmd w)) ∧
    (w.getLsbD 1 = true → decode .bus (w :: bs) = .error (.noSuchRow .bus w)) ∧
    (16 ≤ w.toNat → decode .op (w :: bs) = .error (.noSuchRow .op w))

/-- Words written out from the spec's encodings decode to the instructions they stand for (30_encoding.md sections 1, 6;
operand layout Log 1). -/
def Obligations.SpecWordsDecode : Prop :=
  decodeWhole .op [0x05] = .ok .init ∧
    decodeWhole .op [0x04, 0x28, 0x00] = .ok (.writeByte 0x28 .command) ∧
    decodeWhole .keycode [0x64, 0x0A] = .ok (.key64 ⟨2, true⟩) ∧
    decodeWhole .cmd [0xC0] = .ok .lineAddr1 ∧
    decodeWhole .cmd [0x78] = .ok (.cgramAddr 7) ∧
    decodeWhole .chr [0x48] = .ok (.char 0x48) ∧
    decodeWhole .bus [0x3C] = .ok (.busStrobe 0x3 true .command) ∧
    decodeWhole .bus [0xF9] = .ok (.busSetup 0xF true .character)

/-- The oldest request is taken, decoded and run to completion; its mark becomes the in-progress bit (Log 6). -/
def Obligations.StepRunsTheDecodedInstruction : Prop :=
  ∀ (s : State) (r : Request) (rest : List Request) (i : Instr), s.requests = r :: rest →
    decodeWhole r.format r.bytes = .ok i →
    step s = exec i { s with requests := rest, inProgress := r.during }

/-- With nothing requested the core stays idle (10 R34, Log 18); a request whose code word has no row is none of the
operations and is refused with BadOp, whether or not one is running, and nothing else happens (60_exceptions.md sections 1
and 3; D19; Log 23); bytes that are no request stop the machine by name (Log 23). -/
def Obligations.StepIdlesOrStopsByName : Prop :=
  (∀ s : State, s.requests = [] → step s = .next { s with inProgress := false }) ∧
    (∀ (s : State) (r : Request) (rest : List Request) (f : Format) (w : Byte), s.requests = r :: rest →
      decodeWhole r.format r.bytes = .error (.noSuchRow f w) →
      step s = .next { s with
        requests := rest, inProgress := r.during, results := s.results ++ [.refused .badOp] }) ∧
    (∀ (s : State) (r : Request) (rest : List Request) (e : DecodeError), s.requests = r :: rest →
      (∀ f w, e ≠ .noSuchRow f w) → decodeWhole r.format r.bytes = .error e → step s = .fault (.illFramed e))

/-! Refusals. -/

/-- The unassigned OP codes: the request is refused with BadOp, and nothing else happens (60_exceptions.md section 1;
D19, D24). -/
def Obligations.UnassignedCodesAreRefusedBadOp : Prop :=
  ∀ s : State, ∀ i ∈ [Instr.opUnassignedA, .opUnassignedB, .opUnassignedC, .opUnassignedD, .opUnassignedE,
      .opUnassignedF],
    exec i s = .next { s with results := s.results ++ [.refused .badOp] }

/-- A request whose operands break a precondition is refused with the reason of the first one broken, even while an
operation runs, and nothing else happens (60_exceptions.md sections 1 and 3; D19). -/
def Obligations.BrokenPreconditionsAreRefused : Prop :=
  ∀ s : State,
    let refusedWith := fun r : Reason => (Host.Outcome.next { s with results := s.results ++ [.refused r] } : Outcome)
    (∀ bytes : List Byte, bytes.length % 8 ≠ 0 → exec (.decodeScan bytes) s = refusedWith .badLength) ∧
    (∀ frame : List Byte, frame.length ≠ 8 → exec (.decodeFrame frame) s = refusedWith .badFrame) ∧
    (∀ (text : List Byte) (n : Byte), 4 ≤ n.toNat →
      exec (.writeString text (.index n)) s = refusedWith .badLine) ∧
    (∀ (text : List Byte) (b : Byte), b ∉ lineAddresses →
      exec (.writeString text (.address b)) s = refusedWith .badLine) ∧
    (∀ (slot : Byte) (bitmap : List Byte), 8 ≤ slot.toNat →
      exec (.defineGlyph slot bitmap) s = refusedWith .badSlot) ∧
    (∀ (slot : Byte) (bitmap : List Byte), slot.toNat < 8 → bitmap.length ≠ 8 →
      exec (.defineGlyph slot bitmap) s = refusedWith .badBitmap) ∧
    (∀ (n : Byte) (m : Mode), 16 ≤ n.toNat → exec (.writeNibble n m) s = refusedWith .badNibble)

/-- A well-formed request made while an operation runs is refused with Busy, and nothing else happens (60_exceptions.md
section 10; D28; how the model marks such a request is Log 6). -/
def Obligations.RequestsDuringAnOperationAreBusy : Prop :=
  ∀ (i : Instr) (s : State), i.wf = true → s.inProgress = true →
    exec i s = .next { s with results := s.results ++ [.refused .busy] }

/-! The decoder. -/

/-- LOOKUP returns the table's entry, and does nothing else; 0x00 and 0x02 are legal operands; in the default table
LOOKUP(5) is ('b', 'B') (40_scancode_table.md section 1; the counters are those of a new operation, Log 7, 10; unique keys,
Log 11). -/
def Obligations.LookupReturnsTheEntry : Prop :=
  (∀ (k : Byte) (s : State), s.inProgress = false → UniqueKeys s.cfg.sct →
    (∀ e ∈ s.cfg.sct, e.keycode = k →
      exec (.lookup k) s = .next (afterDecoder s s.frame s.shift 0 (.lookup (some (e.plain, e.shifted))))) ∧
    ((∀ e ∈ s.cfg.sct, e.keycode ≠ k) →
      exec (.lookup k) s = .next (afterDecoder s s.frame s.shift 0 (.lookup none)))) ∧
  (∀ s : State, s.inProgress = false → s.cfg.sct = sctDefault →
    returned (.lookup 0x05) s = some (.lookup (some (0x62, 0x42))) ∧
    returned (.lookup 0x00) s = some (.lookup none) ∧ returned (.lookup 0x02) s = some (.lookup none))

/-- SHIFT after DECODE_FRAME is the equality of byte 0 with 0x02, whatever the other bytes (41_hid_decoder.md section 1; that
SHIFT is kept once the operation has returned: Log 26). -/
def Obligations.ShiftIsTheWholeByteEqualToTheMarker : Prop :=
  ∀ (s : State) (b0 b1 b2 b3 b4 b5 b6 b7 : Byte), s.inProgress = false →
    ∃ t, exec (.decodeFrame [b0, b1, b2, b3, b4, b5, b6, b7]) s = .next t ∧ (t.shift = true ↔ b0 = 0x02)

/-- Loading a frame sets SHIFT exactly if the whole of byte 0 equals 0x02, and DECODE_FRAME gives the shifted character of the
keycode it looks up exactly then: a 0x02 in bytes 1 to 7 does not shift, nor does any other byte 0 (41 R111). -/
def Obligations.ByteZeroAloneDecidesTheShift : Prop :=
  ∀ (s : State) (b0 b1 b2 b3 b4 b5 b6 b7 : Byte),
    (s.loadFrame ⟨b0, b1, b2, b3, b4, b5, b6, b7⟩).shift = decide (b0 = 0x02#8) ∧
    (s.inProgress = false → ∀ k,
      [b0, b1, b2, b3, b4, b5, b6, b7].find? (fun b => decide (b ≠ 0x00#8 ∧ b ≠ 0x02#8)) = some k →
      ∀ e0 ∈ s.cfg.sct, e0.keycode = k → ∃ e ∈ s.cfg.sct, e.keycode = k ∧
        returned (.decodeFrame [b0, b1, b2, b3, b4, b5, b6, b7]) s =
          some (.frame (.char (if b0 = 0x02#8 then e.shifted else e.plain)) none))

/-- The filter drops 0x00 and 0x02 at all eight positions alike and keeps the order of the rest. DECODE_FRAME with nothing
left gives Empty, and the first byte left, wherever it stands (byte 0 and byte 1 not exempt), is the keycode that is
looked up (41 R112). -/
def Obligations.TheFilterTreatsEveryPositionAlike : Prop :=
  ∀ (s : State) (b0 b1 b2 b3 b4 b5 b6 b7 : Byte), s.inProgress = false →
    let frame := [b0, b1, b2, b3, b4, b5, b6, b7]
    let rem := frame.filter (fun b => decide (b ≠ 0x00#8 ∧ b ≠ 0x02#8))
    (∀ f : Frame, f.toBytes = frame → remaining f = rem) ∧
    (rem = [] → returned (.decodeFrame frame) s = some (.frame .empty none)) ∧
    (∀ k more, rem = k :: more →
      ((∀ e ∈ s.cfg.sct, e.keycode ≠ k) → returned (.decodeFrame frame) s = some (.frame .empty (some k))) ∧
      (∀ e0 ∈ s.cfg.sct, e0.keycode = k → ∃ e ∈ s.cfg.sct, e.keycode = k ∧
        returned (.decodeFrame frame) s = some (.frame (.char (if b0 = 0x02#8 then e.shifted else e.plain)) none)))

/-- DECODE_FRAME loads FRAME and SHIFT, drops the bytes 0x00 and 0x02, looks the first remaining byte up, and returns
Empty, Empty with LookupFailure, or the plain or shifted character; nothing else changes but the counters (41_hid_decoder.md
section 2; counters Log 7, 10; FRAME and SHIFT after the return Log 26; of two rows with one keycode the first, Log 11). -/
def Obligations.DecodeFrameDecodesTheFirstRemainingByte : Prop :=
  ∀ (s : State) (b0 b1 b2 b3 b4 b5 b6 b7 : Byte), s.inProgress = false →
    let frame := [b0, b1, b2, b3, b4, b5, b6, b7]
    exec (.decodeFrame frame) s =
      .next (afterDecoder s ⟨b0, b1, b2, b3, b4, b5, b6, b7⟩ (b0 == 0x02#8) 0
        (.frame (frameMeaning s.cfg.sct frame).1 (frameMeaning s.cfg.sct frame).2))

/-- DECODE_FRAME's result: Empty for a frame of filtered bytes only; the same for two frames that agree in byte 0 being
0x02 and in the first remaining byte; and for every row of an admissible table its plain and its shifted character
(41_hid_decoder.md section 5). -/
def Obligations.DecodeFrameLaws : Prop :=
  ∀ s : State, s.inProgress = false →
    (∀ frame : List Byte, frame.length = 8 → (∀ b ∈ frame, b = 0x00 ∨ b = 0x02) →
      returned (.decodeFrame frame) s = some (.frame .empty none)) ∧
    (∀ f g : List Byte, f.length = 8 → g.length = 8 → (f.head? = some 0x02 ↔ g.head? = some 0x02) →
      (f.filter (fun b => decide (b ≠ 0x00#8 ∧ b ≠ 0x02#8))).head? =
        (g.filter (fun b => decide (b ≠ 0x00#8 ∧ b ≠ 0x02#8))).head? →
      returned (.decodeFrame f) s = returned (.decodeFrame g) s) ∧
    (∀ e ∈ s.cfg.sct, UniqueKeys s.cfg.sct → e.keycode ≠ 0x00 → e.keycode ≠ 0x02 →
      returned (.decodeFrame [0, 0, e.keycode, 0, 0, 0, 0, 0]) s = some (.frame (.char e.plain) none) ∧
      returned (.decodeFrame [2, 0, e.keycode, 0, 0, 0, 0, 0]) s = some (.frame (.char e.shifted) none))

/-- LookupFailure: a frame whose keycode has no row gives Empty and the report; in a scan it is recorded with its frame index
and contributes nothing to the value, and the frames after it are decoded, after a sentinel too (D20); a frame of 0x00 and
0x02 only cannot raise it; in the default table (D2 to D6) 200 keycodes do (60_exceptions.md section 1; Log 11, 21). -/
def Obligations.LookupFailureSkipsTheFrame : Prop :=
  (∀ s : State, s.inProgress = false →
    (∀ (frame : List Byte) (k : Byte), frame.length = 8 →
      frame.find? (fun b => decide (b ≠ 0x00#8 ∧ b ≠ 0x02#8)) = some k → (∀ e ∈ s.cfg.sct, e.keycode ≠ k) →
      returned (.decodeFrame frame) s = some (.frame .empty (some k)) ∧
      ∀ a b : List Byte, a.length % 8 = 0 → b.length % 8 = 0 →
        ∃ v r1 r2, returned (.decodeScan (a ++ b)) s = some (.scan v r1) ∧
          returned (.decodeScan (a ++ frame ++ b)) s = some (.scan v r2) ∧ (a.length / 8, k) ∈ r2) ∧
    (∀ frame : List Byte, frame.length = 8 → (∀ b ∈ frame, b = 0x00 ∨ b = 0x02) →
      returned (.decodeFrame frame) s = some (.frame .empty none))) ∧
  ((List.range 256).filter (fun k => decide (k ≠ 0 ∧ k ≠ 2 ∧
    ∀ e ∈ sctDefault, e.keycode ≠ BitVec.ofNat 8 k))).length = 200

/-- The source's two anchors hold with every admissible table: 4 decodes to 'a', and 5 with the shift marker to 'B'
(95_test_vectors.md S1, S2). -/
def Obligations.AdmissibleTablesDecodeTheAnchors : Prop :=
  ∀ s : State, s.inProgress = false → Admissible s.cfg.sct →
    returned (.decodeFrame [4, 0, 0, 0, 0, 0, 0, 0]) s = some (.frame (.char 0x61) none) ∧
    returned (.decodeFrame [2, 0, 5, 0, 0, 0, 0, 0]) s = some (.frame (.char 0x42) none)

/-- Each of the 54 KEYCODE rows (KEY_04 to KEY_38 and KEY_64), executed in a frame of its own with the default table: the
shifted character where byte 0 is the shift marker, else the plain one; FRAME and SHIFT are those of that frame, and nothing
left by an earlier operation is read (40_scancode_table.md section 3, 95_test_vectors.md S8; that the rows are executed so is
the model's, Log 2; counters Log 7, 10; FRAME and SHIFT after the return Log 26). -/
def Obligations.KeycodeRowsGiveTheirCharacters : Prop :=
  ∀ r ∈ keyRows, ∀ (pos : BitVec 3) (shifted : Bool) (s : State), s.inProgress = false → s.cfg.sct = sctDefault →
    ∃ f : Frame, f.toBytes = keyFrameBytes r.keycode pos shifted ∧
      exec (r.instr ⟨pos, shifted⟩) s =
        .next (afterDecoder s f (decide (pos ≠ 0) && shifted) 0
          (.frame (.char (if pos ≠ 0 ∧ shifted = true then r.shifted else r.plain)) none))

/-- KEY_NO_KEY and KEY_SHIFT_MARKER are filtered: no character, no lookup; in byte 0 they decide SHIFT. KEY_UNKNOWN is
looked up: without an entry, Empty and LookupFailure(k); with one (another table), its character (41_hid_decoder.md
section 1, 60_exceptions.md section 1; Log 2; counters Log 7, 10; FRAME and SHIFT after the return Log 26; unique keys
Log 11). -/
def Obligations.FilteredAndUnknownKeycodes : Prop :=
  ∀ (pos : BitVec 3) (shifted : Bool) (s : State), s.inProgress = false →
    (∃ f : Frame, f.toBytes = keyFrameBytes 0x00 pos shifted ∧
      exec (.keyNoKey ⟨pos, shifted⟩) s =
        .next (afterDecoder s f (decide (pos ≠ 0) && shifted) 0 (.frame .empty none))) ∧
    (∃ f : Frame, f.toBytes = keyFrameBytes 0x02 pos shifted ∧
      exec (.keyShiftMarker ⟨pos, shifted⟩) s =
        .next (afterDecoder s f (decide (pos = 0) || shifted) 0 (.frame .empty none))) ∧
    (∀ k : Byte, k ≠ 0x00 → k ≠ 0x02 → ∃ f : Frame, f.toBytes = keyFrameBytes k pos shifted ∧
      ((∀ e ∈ s.cfg.sct, e.keycode ≠ k) →
        exec (.keyUnknown k ⟨pos, shifted⟩) s =
          .next (afterDecoder s f (decide (pos ≠ 0) && shifted) 0 (.frame .empty (some k)))) ∧
      (∀ e ∈ s.cfg.sct, UniqueKeys s.cfg.sct → e.keycode = k →
        exec (.keyUnknown k ⟨pos, shifted⟩) s =
          .next (afterDecoder s f (decide (pos ≠ 0) && shifted) 0
            (.frame (.char (if pos ≠ 0 ∧ shifted = true then e.shifted else e.plain)) none))))

/-- A KEYCODE row is DECODE_FRAME of its frame in every state; and a frame's result is that of its first remaining byte
executed as a KEYCODE row at its position, with the shift marker where byte 0 is it (41_hid_decoder.md section 2; Log 2). -/
def Obligations.KeycodeWordsRefineDecodeFrame : Prop :=
  (∀ (k : Byte) (pos : BitVec 3) (shifted : Bool) (s : State),
    exec (keycodeRow k ⟨pos, shifted⟩) s = exec (.decodeFrame (keyFrameBytes k pos shifted)) s) ∧
  (∀ (s : State) (frame : List Byte) (pos : BitVec 3) (k : Byte), s.inProgress = false → frame.length = 8 →
    frame[pos.toNat]? = some k → k ≠ 0x00 → k ≠ 0x02 →
    (∀ j, j < pos.toNat → frame[j]? = some 0x00 ∨ frame[j]? = some 0x02) →
    returned (keycodeRow k ⟨pos, decide (frame.head? = some 0x02#8)⟩) s = returned (.decodeFrame frame) s)

/-- DECODE_SCAN: every frame is decoded in order, the characters are concatenated and cut at the first newline, NoResult
if nothing is left, with the LookupFailures of all frames; FI ends at the number of frames, RESULT is discarded, FRAME and
SHIFT are those of the last frame (Log 26), nothing else changes (41_hid_decoder.md section 3; D7, D20, D21; Log 10). -/
def Obligations.DecodeScanResult : Prop :=
  ∀ (s : State) (bytes : List Byte), s.inProgress = false → bytes.length % 8 = 0 →
    ∃ t, exec (.decodeScan bytes) s = .next t ∧
      t.results = s.results ++ [.scan (stringBefore (scanChars s.cfg.sct bytes)) (scanReports s.cfg.sct bytes)] ∧
      t.fi = bytes.length / 8 ∧ t.result = [] ∧ t.seqStep = 0 ∧ t.opWrites = 0 ∧
      (bytes = [] → t.frame = s.frame ∧ t.shift = s.shift) ∧
      (bytes ≠ [] → t.frame.toBytes = frameAt bytes (bytes.length / 8 - 1) ∧
        (t.shift = true ↔ (frameAt bytes (bytes.length / 8 - 1)).head? = some 0x02)) ∧
      t.inProgress = s.inProgress ∧ t.cfg = s.cfg ∧ t.lines = s.lines ∧ t.display = s.display ∧
      t.requests = s.requests ∧ t.answers = s.answers ∧ t.busCount = s.busCount ∧ t.trace = s.trace

/-- NoResult exactly when the string left after the sentinel cut is empty, whatever LookupFailures there are; it is a
value and aborts nothing (60_exceptions.md section 1; D7, D20, D21; Log 21). -/
def Obligations.NoResultExactlyWhenTheCutStringIsEmpty : Prop :=
  ∀ (s : State) (bytes : List Byte), s.inProgress = false → bytes.length % 8 = 0 →
    ∃ t v reports, exec (.decodeScan bytes) s = .next t ∧ t.results = s.results ++ [.scan v reports] ∧
      (v = .noResult ↔ (scanChars s.cfg.sct bytes).head? = none ∨
        (scanChars s.cfg.sct bytes).head? = some 0x0A) ∧
      reports = scanReports s.cfg.sct bytes

/-- The streaming form, one frame at a time with the bit DONE, computes DECODE_SCAN's value and its list of LookupFailure
reports for every input (41_hid_decoder.md section 4; D7, D20, D21; Log 21). -/
def Obligations.StreamingDecoderAgreesWithDecodeScan : Prop :=
  ∀ (s : State) (bytes : List Byte), s.inProgress = false → bytes.length % 8 = 0 →
    returned (.decodeScan bytes) s =
      some (.scan (streamValue (streamScan s.cfg.sct bytes)) (streamScan s.cfg.sct bytes).reports)

/-- The laws of DECODE_SCAN: a string is no longer than the number of frames; a scan of `a ++ b` is the string of the
concatenated characters with the reports of both, `b`'s counted on; if `a` decodes to a newline, `b` does not change the
value; an idle frame in between changes the value nowhere (41_hid_decoder.md sections 3, 5; D7 the newline, D20 the reports
after it, D21; Log 21). -/
def Obligations.DecodeScanLaws : Prop :=
  ∀ (s : State) (a b : List Byte), s.inProgress = false → a.length % 8 = 0 → b.length % 8 = 0 →
    (∀ str reports, returned (.decodeScan a) s = some (.scan (.str str) reports) → str.length ≤ a.length / 8) ∧
    returned (.decodeScan (a ++ b)) s =
      some (.scan (stringBefore (scanChars s.cfg.sct a ++ scanChars s.cfg.sct b))
        (scanReports s.cfg.sct a ++ (scanReports s.cfg.sct b).map (fun r => (a.length / 8 + r.1, r.2)))) ∧
    (0x0A#8 ∈ scanChars s.cfg.sct a →
      ∃ v ra rab, returned (.decodeScan a) s = some (.scan v ra) ∧
        returned (.decodeScan (a ++ b)) s = some (.scan v rab)) ∧
    (∃ v r1 r2, returned (.decodeScan (a ++ b)) s = some (.scan v r1) ∧
      returned (.decodeScan (a ++ List.replicate 8 0x00 ++ b)) s = some (.scan v r2))

/-! The driver. -/

/-- WRITE_NIBBLE: `W(b) S W(b|4) P W(b) S`, with the fourth write under NIBBLE_TRAILING_WRITE; at the first failing write
it stops with BusFailure; FRAME, SHIFT and RESULT are not written (42_display_driver.md section 2; D8, D9, D11; counters and
answers Log 5, 7, 10). -/
def Obligations.WriteNibbleSendsThePulse : Prop :=
  ∀ (n : Byte) (m : Mode) (s : State), s.inProgress = false → n.toNat < 16 →
    SendsExactly (.writeNibble n m) s (sentNibble s.cfg n.toNat m)

/-- WRITE_BYTE: the high nibble, then the low nibble, in one mode and with one backlight bit; BusFailure at the first
failing write (42_display_driver.md section 3; D8, D9, D11; counters and answers Log 5, 7, 10). -/
def Obligations.WriteByteSendsHighThenLow : Prop :=
  ∀ (v : Byte) (m : Mode) (s : State), s.inProgress = false →
    SendsExactly (.writeByte v m) s (sentNibble s.cfg (v.toNat / 16) m ++ sentNibble s.cfg (v.toNat % 16) m)

/-- INIT: the six command bytes in order, then one settle delay, and no other (42_display_driver.md section 4; D8, D9, D11;
counters and answers Log 5, 7, 10). -/
def Obligations.InitSendsTheSixCommands : Prop :=
  ∀ s : State, s.inProgress = false →
    SendsExactly .init s
      (sentBytes s.cfg .command [0x33, 0x32, 0x06, 0x0C, 0x28, 0x01] ++ [.d .settle])

/-- WRITE_STRING: the line's address byte, then the 16 characters of the padded or cut text, for the index and for the
address byte of each line (42_display_driver.md section 5, 30_encoding.md section 2; D16, D17; counters and answers Log 5, 7,
10). -/
def Obligations.WriteStringSendsOneLine : Prop :=
  ∀ (text : List Byte) (n : Nat) (address : Byte) (line : LineSel) (s : State), s.inProgress = false →
    lineAddresses[n]? = some address → (line = .index (BitVec.ofNat 8 n) ∨ line = .address address) →
    SendsExactly (.writeString text line) s (sentLine s.cfg address text)

/-- DEFINE_GLYPH: the slot's address command 0x40 + 8 slot, then the eight rows (42_display_driver.md section 6; D14, D15;
counters and answers Log 5, 7, 10). -/
def Obligations.DefineGlyphSendsTheSlotAndRows : Prop :=
  ∀ (slot : Byte) (bitmap : List Byte) (s : State), s.inProgress = false → slot.toNat < 8 → bitmap.length = 8 →
    SendsExactly (.defineGlyph slot bitmap) s
      (sentByte s.cfg .command (BitVec.ofNat 8 (0x40 + 8 * slot.toNat)) ++ sentBytes s.cfg .character bitmap)

/-- SHOW_PRODUCT: the title on line 0, the currency glyph and the price on line 1 (43_display_formatter.md; D26; counters and
answers Log 5, 7, 10). -/
def Obligations.ShowProductSendsTwoLines : Prop :=
  ∀ (title price : List Byte) (s : State), s.inProgress = false →
    SendsExactly (.showProduct title price) s
      (sentLine s.cfg 0x80 title ++ sentLine s.cfg 0xC0 (0x00 :: price))

/-- SHOW_NOT_FOUND: the two configured texts on lines 0 and 1 (43_display_formatter.md; D26; counters and answers Log 5, 7,
10). -/
def Obligations.ShowNotFoundSendsTwoLines : Prop :=
  ∀ s : State, s.inProgress = false →
    SendsExactly .showNotFound s (sentLine s.cfg 0x80 s.cfg.nfLine1 ++ sentLine s.cfg 0xC0 s.cfg.nfLine2)

/-- INIT_33, INIT_32, INIT_06, INIT_0C, INIT_28, INIT_01, LINE_ADDR_0 to LINE_ADDR_3, CGRAM_ADDR and CHAR: each sends its
byte in its mode, high nibble first (30_encoding.md section 1; that each is executed so is the model's, Log 2; counters and
answers Log 5, 7, 10). -/
def Obligations.ControllerByteRowsSendTheirByte : Prop :=
  ∀ (slot : BitVec 3) (c : Byte), ∀ r ∈ controllerRows slot c, ∀ s : State, s.inProgress = false →
    SendsExactly r.1 s (sentByte s.cfg r.2.2 r.2.1)

/-- BUS_SETUP and BUS_STROBE: the WRITE_NIBBLE of the row's nibble in its mode. A row's own word, where its bit 3 is
BACKLIGHT, is the first and third byte (setup) or the second byte (strobe) that it writes; every byte carries BACKLIGHT,
whatever the row's bit 3 is (30_encoding.md sections 1, 4, 42_display_driver.md section 2; D8, D9, D11; that a row is executed
so is the model's, Log 2, 3; counters and answers Log 5, 7, 10). -/
def Obligations.BusRowsWriteTheirByte : Prop :=
  ∀ (n : Nibble) (b : Bool) (m : Mode) (s : State), s.inProgress = false →
    let planned := sentNibble s.cfg n.toNat m
    SendsExactly (.busSetup n b m) s planned ∧ SendsExactly (.busStrobe n b m) s planned ∧
    ∃ low high, encode (.busSetup n b m) = (.bus, [low]) ∧ encode (.busStrobe n b m) = (.bus, [high]) ∧
      (b = s.cfg.backlight → planned[0]? = some (.w s.cfg.busAddr low) ∧ planned[2]? = some (.w s.cfg.busAddr high) ∧
        planned[4]? = some (.w s.cfg.busAddr low))

/-- A failed write ends the operation at once: F(b) is its last event, the result is BusFailure with b and the number of
writes before it, the core is idle again; the trace is a prefix of the trace the same operation has when all writes
succeed, with the last W(b) replaced by F(b). It is a proper one but for a last write that NIBBLE_TRAILING_WRITE makes the
last event (42_display_driver.md section 7, 60_exceptions.md section 1; D11, D22). -/
def Obligations.BusFailureCutsTheTrace : Prop :=
  ∀ (i : Instr) (s t : State), exec i s = .next t →
    ((∃ a b, Event.f a b ∈ newEvents s t) ∨ (∃ b k, t.results = s.results ++ [.busFailure b k])) →
    ∃ pre post u b, ∃ n, newEvents s t = pre ++ [.f s.cfg.busAddr b] ∧
      t.results = s.results ++ [.busFailure b (pre.countP Event.isWrite)] ∧ t.inProgress = false ∧
      exec i { s with answers := List.replicate n true } = .next u ∧ u.results = s.results ++ [.ok] ∧
      newEvents s u = pre ++ .w s.cfg.busAddr b :: post ∧ (s.cfg.nibbleTrailingWrite = false → post ≠ [])

/-- The sizes of a completed operation's trace: bus writes, settle and pulse delays, events, and the least duration, for
both settings of NIBBLE_TRAILING_WRITE (42_display_driver.md section 7, 70_reset_and_hazards.md section 4). -/
def Obligations.CompletedTracesHaveTheirSizes : Prop :=
  ∀ (s : State) (n v slot : Byte) (m : Mode) (text title price bitmap : List Byte) (line : LineSel),
    s.inProgress = false → s.nextSucceed 272 → n.toNat < 16 → slot.toNat < 8 → bitmap.length = 8 →
    lineOk line = true →
    let extra := if s.cfg.nibbleTrailingWrite then 1 else 0
    ∀ row ∈ [(Instr.writeNibble n m, 3 + extra, 2, 1), (.writeByte v m, 6 + 2 * extra, 4, 2),
        (.init, 36 + 12 * extra, 25, 12), (.writeString text line, 102 + 34 * extra, 68, 34),
        (.defineGlyph slot bitmap, 54 + 18 * extra, 36, 18), (.showProduct title price, 204 + 68 * extra, 136, 68),
        (.showNotFound, 204 + 68 * extra, 136, 68)],
      ∃ t, exec row.1 s = .next t ∧ t.results = s.results ++ [.ok] ∧
        (newEvents s t).countP Event.isWrite = row.2.1 ∧ delaysOf .settle (newEvents s t) = row.2.2.1 ∧
        delaysOf .pulse (newEvents s t) = row.2.2.2 ∧
        (newEvents s t).length = row.2.1 + row.2.2.1 + row.2.2.2 ∧
        leastDuration s.cfg (newEvents s t) = row.2.2.1 * s.cfg.tSettle + row.2.2.2 * s.cfg.tPulse

/-- Every bus byte of every instruction carries BACKLIGHT in bit 3 and has bit 1 clear (42_display_driver.md section 7,
30_encoding.md section 4; D8 to D10). -/
def Obligations.BusBytesCarryTheBacklight : Prop :=
  ∀ (i : Instr) (s t : State), exec i s = .next t → ∀ e ∈ newEvents s t, ∀ b, e.byte = some b →
    b.getLsbD 1 = false ∧ b.getLsbD 3 = s.cfg.backlight

/-- The two readings of the source's writeNibble differ in bus traffic only: with all writes succeeding, the distinct
consecutive bytes, the expander's lines and the controller are the same (42_display_driver.md section 2; D11). -/
def Obligations.TrailingWriteIsInvisibleToTheTarget : Prop :=
  ∀ (i : Instr) (s : State), s.nextSucceed 272 →
    ∃ t1 t2, exec i { s with cfg := { s.cfg with nibbleTrailingWrite := false } } = .next t1 ∧
      exec i { s with cfg := { s.cfg with nibbleTrailingWrite := true } } = .next t2 ∧
      distinctConsecutive (delivered (newEvents s t1)) = distinctConsecutive (delivered (newEvents s t2)) ∧
      t1.lines = t2.lines ∧ t1.display = t2.display

/-- What an instruction sends and returns depends on the configuration, on the bus's answers and on being idle only, on
nothing sent, returned or left in FRAME, SHIFT or a counter before (10_state.md sections 3, 5, 11, 41_hid_decoder.md section
2, 42_display_driver.md section 7; Log 10, 17, 26). -/
def Obligations.NothingIsRememberedBetweenOperations : Prop :=
  ∀ (i : Instr) (s1 s2 : State), s1.cfg = s2.cfg → s1.inProgress = s2.inProgress →
    (∀ j, j < 272 → s1.answerAt j = s2.answerAt j) →
    ∃ t1 t2 r, ∃ events : List Event, exec i s1 = .next t1 ∧ exec i s2 = .next t2 ∧
      t1.trace = s1.trace ++ events ∧ t2.trace = s2.trace ++ events ∧
      t1.results = s1.results ++ [r] ∧ t2.results = s2.results ++ [r]

/-! The bus target. -/

/-- The expander's lines hold the last byte delivered; after a failed write they are not known (10_state.md section 9, 93 U5;
Log 13). -/
def Obligations.LinesHoldTheLastDeliveredByte : Prop :=
  ∀ (i : Instr) (s t : State), exec i s = .next t →
    ((∀ a b, Event.f a b ∉ newEvents s t) →
      t.lines = (match (delivered (newEvents s t)).getLast? with
        | some b => some b
        | none => s.lines)) ∧
    ((∃ a b, Event.f a b ∈ newEvents s t) → t.lines = none)

/-- After a BusFailure nothing is known of the bus target, lines and controller (60_exceptions.md section 4; 93 U5; Log
13). -/
def Obligations.BusFailureLosesTheController : Prop :=
  ∀ (i : Instr) (s t : State) (b : Byte) (k : Nat), exec i s = .next t →
    t.results = s.results ++ [.busFailure b k] → t.display = none ∧ t.lines = none

/-- INIT, all of whose writes succeed, makes the controller known from any state: 4-bit interface, display memory all
spaces, address 0, increment, not shifted, display on, cursor and blink off, two lines, 5×8 font; it keeps the glyph
memory of a controller that was ready (60_exceptions.md section 14, from general knowledge; Log 12, 30). -/
def Obligations.InitMakesTheDisplayKnown : Prop :=
  ∀ s : State, s.inProgress = false → s.nextSucceed 48 →
    ∃ t d, exec .init s = .next t ∧ t.displayReady d ∧ d.counter = some (.ddram (some 0)) ∧
      (∀ a, d.ddram.read a = if a < 0x28 ∨ (0x40 ≤ a ∧ a < 0x68) then some 0x20 else none) ∧
      d.increment = some true ∧ d.shiftMode = some false ∧ d.offset = some 0 ∧ d.displayOn = some true ∧
      d.cursorOn = some false ∧ d.blinkOn = some false ∧ d.twoLines = some true ∧ d.fiveByTen = some false ∧
      (∀ d0, s.displayReady d0 → d.cgram = d0.cgram)

/-- WRITE_STRING at a ready controller puts the 16 characters at the line's cells and changes no other cell of either
memory; with S = 0 the display stays where it is, and with any other entry mode its offset is not known (60_exceptions.md
section 14, from general knowledge; Log 12, 30, 32). -/
def Obligations.WriteStringPutsTheLineInDisplayMemory : Prop :=
  ∀ (text : List Byte) (n : Nat) (address : Byte) (line : LineSel) (s : State) (d : Display),
    s.inProgress = false → s.nextSucceed 136 → s.displayReady d → d.increment = some true →
    lineAddresses[n]? = some address → (line = .index (BitVec.ofNat 8 n) ∨ line = .address address) →
    ∃ t d', exec (.writeString text line) s = .next t ∧ t.displayReady d' ∧ d'.increment = some true ∧
      (∀ j, j < 16 → d'.ddram.read (address.toNat - 0x80 + j) = (displayLine text)[j]?) ∧
      (∀ a, a < address.toNat - 0x80 ∨ address.toNat - 0x80 + 16 ≤ a → d'.ddram.read a = d.ddram.read a) ∧
      d'.cgram = d.cgram ∧ d'.shiftMode = d.shiftMode ∧ d'.displayOn = d.displayOn ∧
      d'.offset = (if d.shiftMode = some false then d.offset else none)

/-- DEFINE_GLYPH at a ready controller puts the eight rows at glyph addresses 8 slot to 8 slot + 7, changes no other cell,
and leaves the address counter in glyph memory just past the slot, wrapped after slot 7; with S = 0 the display stays
where it is, and with any other entry mode its offset is not known (60_exceptions.md section 14, 70_reset_and_hazards.md
section 3, from general knowledge; Log 12, 30, 32). -/
def Obligations.DefineGlyphFillsTheSlot : Prop :=
  ∀ (slot : Byte) (bitmap : List Byte) (s : State) (d : Display), s.inProgress = false → s.nextSucceed 72 →
    s.displayReady d → d.increment = some true → slot.toNat < 8 → bitmap.length = 8 →
    ∃ t d', exec (.defineGlyph slot bitmap) s = .next t ∧ t.displayReady d' ∧ d'.increment = some true ∧
      (∀ j, j < 8 → d'.cgram.read (8 * slot.toNat + j) = bitmap[j]?) ∧
      (∀ a, a < 8 * slot.toNat ∨ 8 * slot.toNat + 8 ≤ a → d'.cgram.read a = d.cgram.read a) ∧
      d'.ddram = d.ddram ∧ d'.counter = some (.cgram (some (BitVec.ofNat 6 (8 * slot.toNat + 8)))) ∧
      d'.shiftMode = d.shiftMode ∧ d'.displayOn = d.displayOn ∧
      d'.offset = (if d.shiftMode = some false then d.offset else none)

/-- The retry sequence INIT, DEFINE_GLYPH(0), SHOW_PRODUCT restores the whole picture from any state, one left by a
BusFailure among them: title, glyph and price in display memory, the bitmap in slot 0, and a 16×2 panel shows those two lines
(60_exceptions.md section 5, 95_test_vectors.md P4, from general knowledge; Log 12, 28, 30, 31). -/
def Obligations.RetrySequenceRestoresThePicture : Prop :=
  ∀ (s : State) (title price bitmap : List Byte), s.inProgress = false → s.nextSucceed 392 → bitmap.length = 8 →
    ∃ t1 t2 t3 d, exec .init s = .next t1 ∧ exec (.defineGlyph 0x00 bitmap) t1 = .next t2 ∧
      exec (.showProduct title price) t2 = .next t3 ∧ t3.displayReady d ∧
      (∀ j, j < 16 → d.ddram.read j = (displayLine title)[j]?) ∧
      (∀ j, j < 16 → d.ddram.read (0x40 + j) = (displayLine (0x00 :: price))[j]?) ∧
      (∀ j, j < 8 → d.cgram.read j = bitmap[j]?) ∧
      d.picture .twoBySixteen = .on [(displayLine title).map (fun c => some (d.shows c)),
        (displayLine (0x00 :: price)).map (fun c => some (d.shows c))]

/-- SHOW_PRODUCT and SHOW_NOT_FOUND at a ready controller put their two lines at 0x00 and 0x40 and change no other cell of
either memory; a 16×2 panel, switched on, not shifted, with N = 1 and F = 0, then shows them, shows something that is not
known where the display may have shifted or N or F is another, and shows nothing while it is switched off
(60_exceptions.md section 14, from general knowledge; Log 12, 28, 30, 31, 32). -/
def Obligations.ShowOperationsPutTheirTwoLines : Prop :=
  ∀ (title price : List Byte) (s : State) (d : Display), s.inProgress = false → s.nextSucceed 272 →
    s.displayReady d → d.increment = some true →
    ∀ r ∈ [(Instr.showProduct title price, title, 0x00#8 :: price), (.showNotFound, s.cfg.nfLine1, s.cfg.nfLine2)],
      ∃ t d', exec r.1 s = .next t ∧ t.displayReady d' ∧
        (∀ j, j < 16 → d'.ddram.read j = (displayLine r.2.1)[j]?) ∧
        (∀ j, j < 16 → d'.ddram.read (0x40 + j) = (displayLine r.2.2)[j]?) ∧
        (∀ a, (16 ≤ a ∧ a < 0x40) ∨ 0x50 ≤ a → d'.ddram.read a = d.ddram.read a) ∧ d'.cgram = d.cgram ∧
        (d.displayOn = some true → d.shiftMode = some false → d.offset = some 0 → d.twoLines = some true →
          d.fiveByTen = some false →
          d'.picture .twoBySixteen = .on [(displayLine r.2.1).map (fun c => some (d'.shows c)),
            (displayLine r.2.2).map (fun c => some (d'.shows c))]) ∧
        (d.displayOn = some true → (d.shiftMode ≠ some false ∨ d.offset ≠ some 0 ∨ d.twoLines ≠ some true ∨
          d.fiveByTen ≠ some false) → d'.picture .twoBySixteen = .notKnown) ∧
        (d.displayOn = some false → d'.picture .twoBySixteen = .off)

/-- A Character-mode byte, by WRITE_BYTE or CHAR, at a ready controller: it is stored at the address counter, no other
cell changes, and with increment the counter goes on by one in either memory (past the last display address 0x7F it is not
known); at an address where no cell exists the model knows no display cell any more; at an unknown address no cell of the
memory the last address command chose, and with none known, of either. No mode changes, and with S = 0 the display stays
where it is; with any other entry mode its offset is not known (60_exceptions.md section 14, from general knowledge; Log
12, 30, 32; CHAR as a request: Log 2). -/
def Obligations.CharacterBytesAreStoredAtTheCounter : Prop :=
  ∀ (v : Byte) (s : State) (d : Display), s.inProgress = false → s.nextSucceed 8 → s.displayReady d →
    ∀ i ∈ [Instr.writeByte v .character, .char v], ∃ t d', exec i s = .next t ∧ t.displayReady d' ∧
      d' = { d with ddram := d'.ddram, cgram := d'.cgram, counter := d'.counter, offset := d'.offset } ∧
      d'.offset = (if d.shiftMode = some false then d.offset else none) ∧
      (∀ a, d.counter = some (.ddram (some a)) →
        d'.cgram = d.cgram ∧
        (ddramExists a = true →
          d'.ddram.read a.toNat = some v ∧ (∀ x, x ≠ a.toNat → d'.ddram.read x = d.ddram.read x)) ∧
        (ddramExists a = false → d'.ddram = []) ∧
        (d.increment = some true →
          d'.counter = some (.ddram (if a.toNat = 127 then none else some (BitVec.ofNat 7 (a.toNat + 1))))) ∧
        (d.increment ≠ some true → d'.counter = some (.ddram none))) ∧
      (∀ a, d.counter = some (.cgram (some a)) →
        d'.ddram = d.ddram ∧
        d'.cgram.read a.toNat = some v ∧ (∀ x, x ≠ a.toNat → d'.cgram.read x = d.cgram.read x) ∧
        (d.increment = some true → d'.counter = some (.cgram (some (BitVec.ofNat 6 (a.toNat + 1))))) ∧
        (d.increment ≠ some true → d'.counter = some (.cgram none))) ∧
      (d.counter = some (.ddram none) → d'.ddram = [] ∧ d'.cgram = d.cgram ∧ d'.counter = d.counter) ∧
      (d.counter = some (.cgram none) → d'.cgram = [] ∧ d'.ddram = d.ddram ∧ d'.counter = d.counter) ∧
      (d.counter = none → d'.ddram = [] ∧ d'.cgram = [] ∧ d'.counter = none)

/-- The command rows at a ready controller: the line addresses and the glyph address set the address counter, INIT_01
fills display memory with spaces and leaves the display unshifted, INIT_06, INIT_0C and INIT_28 set mode bits, INIT_33 and
INIT_32 go back to the 8-bit interface; nothing else of the controller changes (60_exceptions.md section 14, from general
knowledge; Log 12, 30, 32; a CMD row as a request: Log 2). -/
def Obligations.CommandRowsActOnTheController : Prop :=
  ∀ (slot : BitVec 3) (s : State) (d : Display), s.inProgress = false → s.nextSucceed 8 → s.displayReady d →
    ∀ r ∈ [(Instr.lineAddr0, { d with counter := some (.ddram (some 0x00)) }),
        (.lineAddr1, { d with counter := some (.ddram (some 0x40)) }),
        (.lineAddr2, { d with counter := some (.ddram (some 0x14)) }),
        (.lineAddr3, { d with counter := some (.ddram (some 0x54)) }),
        (.cgramAddr slot, { d with counter := some (.cgram (some (BitVec.ofNat 6 (8 * slot.toNat)))) }),
        (.init01, { d with ddram := ddramCleared, counter := some (.ddram (some 0x00)), offset := some 0 }),
        (.init06, { d with increment := some true, shiftMode := some false }),
        (.init0C, { d with displayOn := some true, cursorOn := some false, blinkOn := some false }),
        (.init28, { d with twoLines := some true, fiveByTen := some false }),
        (.init33, { d with iface := .eight, twoLines := some false, fiveByTen := some false }),
        (.init32, { d with iface := .eight, twoLines := some false, fiveByTen := some false })],
      ∃ t, exec r.1 s = .next t ∧ t.display = some r.2

/-- A lone WRITE_NIBBLE: between two bytes the controller holds it as the upper half of the next byte, and nothing else
changes; with an upper half held it completes that byte, so a second lone nibble restores the pairing. The controller counts:
halves of different modes are a byte too, whose register is not given, and a byte beginning with 3 may then have changed the
interface (70_reset_and_hazards.md section 3, 60_exceptions.md section 14, from general knowledge; Log 12, 32). -/
def Obligations.LoneNibbleShiftsThePairing : Prop :=
  ∀ (n : Byte) (m : Mode) (s : State) (d : Display), s.inProgress = false → s.nextSucceed 4 → n.toNat < 16 →
    s.display = some d → s.enableIsLow →
    let low := BitVec.ofNat 4 n.toNat
    let rs := decide (m = .character)
    ∃ t, exec (.writeNibble n m) s = .next t ∧ t.enableIsLow ∧
      (d.iface = .four → t.display = some { d with iface := .fourHalf low rs }) ∧
      (∀ hi, d.iface = .fourHalf hi rs → t.display =
        some (match m with
          | .command => Display.command (hi ++ low) { d with iface := .four }
          | .character => Display.data (hi ++ low) { d with iface := .four })) ∧
      (∀ hi other, d.iface = .fourHalf hi other → (m = .character ∨ hi ≠ 3) → (other = rs ∨ hi ≠ 3) →
        ∃ d', t.displayReady d')

/-- With an upper half held, a WRITE_BYTE is split: its high nibble completes the stray byte, its low nibble is held
(70_reset_and_hazards.md section 3, 60_exceptions.md section 14, from general knowledge; Log 12, 32). -/
def Obligations.AStrayNibbleSplitsTheNextByte : Prop :=
  ∀ (v : Byte) (m : Mode) (hi : Nibble) (s : State) (d : Display), s.inProgress = false → s.nextSucceed 8 →
    s.display = some d → s.enableIsLow → d.iface = .fourHalf hi (decide (m = .character)) →
    (m = .character ∨ hi ≠ 3) →
    let stray := hi ++ BitVec.ofNat 4 (v.toNat / 16)
    let d4 := { d with iface := .four }
    ∃ t, exec (.writeByte v m) s = .next t ∧ t.display =
      some { (match m with | .command => Display.command stray d4 | .character => Display.data stray d4) with
        iface := .fourHalf (BitVec.ofNat 4 (v.toNat % 16)) (decide (m = .character)) }

/-- A delivered byte commits its nibble, with its mode bit, exactly when it lowers the enable line; otherwise the
controller is as it was. A committed nibble is an upper half, or completes the byte whose upper half is held, or is a
whole command in the 8-bit interface, or counts towards the three strobes that force the 8-bit interface. Where the
halves' mode bits differ, a cell is known only if it is the same for a command and for a data byte. So it is for a byte
that says write (bit 1 clear); of one that says read nothing is given, and the controller is then not known
(60_exceptions.md section 14, from general knowledge; Log 12, 24, 29, 32). -/
def Obligations.LoweringTheEnableLineCommitsTheNibble : Prop :=
  ∀ (b old : Byte) (s : State) (d : Display), s.lines = some old → s.display = some d → d.inv →
    let t := s.busWritten b
    let n := BitVec.ofNat 4 (b.toNat / 16)
    let rs := b.getLsbD 0
    let d4 := { d with iface := .four }
    t.lines = some b ∧
    (b.getLsbD 2 = true ∨ old.getLsbD 2 = false → t.display = some d) ∧
    (b.getLsbD 2 = false → old.getLsbD 2 = true → b.getLsbD 1 = true →
      t.display = some (Display.unknown (.unsynced 0))) ∧
    (b.getLsbD 2 = false → old.getLsbD 2 = true → b.getLsbD 1 = false →
      (d.iface = .four → t.display = some { d with iface := .fourHalf n rs }) ∧
      (∀ hi, d.iface = .fourHalf hi rs → t.display =
        some (if rs = true then Display.data (hi ++ n) d4 else Display.command (hi ++ n) d4)) ∧
      (∀ hi, d.iface = .fourHalf hi (!rs) → ∃ d', t.display = some d' ∧ (hi ≠ 3 → d'.iface = .four) ∧
        (∀ a v, d'.ddram.read a = some v →
          (Display.command (hi ++ n) d4).ddram.read a = some v ∧ (Display.data (hi ++ n) d4).ddram.read a = some v) ∧
        (∀ a v, d'.cgram.read a = some v →
          (Display.command (hi ++ n) d4).cgram.read a = some v ∧ (Display.data (hi ++ n) d4).cgram.read a = some v)) ∧
      (d.iface = .eight → rs = false → n = 3 → ∃ d', t.display = some d' ∧ d'.iface = .eight ∧ d'.ddram = d.ddram ∧
        d'.cgram = d.cgram) ∧
      (d.iface = .eight → rs = false → n = 2 → ∃ d', t.display = some d' ∧ d'.iface = .four ∧ d'.ddram = d.ddram ∧
        d'.cgram = d.cgram) ∧
      (∀ k, d.iface = .unsynced k → rs = false → n = 3 → ∃ d', t.display = some d' ∧
        d'.iface = if 3 ≤ k + 1 then .eight else .unsynced (k + 1)) ∧
      (∀ k, d.iface = .unsynced k → (rs = true ∨ n ≠ 3) → ∃ d', t.display = some d' ∧ d'.iface = .unsynced 0))

/-- In the 8-bit interface a WRITE_NIBBLE is one strobe and a whole command or data byte, of which only the upper half is
known. In Command mode the highest set bit of the nibble selects: a display or a glyph address that is not known, a
function set whose N and F are not known, a shift, which leaves the display offset unknown; nibble 0 leaves the interface;
glyph memory is never touched. In Character mode a byte that is not known is stored at the address counter, and no other
cell and no mode changes; with S = 0 the display stays where it is, with any other entry mode its offset is not known
(60_exceptions.md section 14, from general knowledge; Log 12, 30, 32). -/
def Obligations.StrobesInTheEightBitInterface : Prop :=
  ∀ (n : Byte) (m : Mode) (s : State) (d : Display), s.inProgress = false → s.nextSucceed 4 → n.toNat < 16 →
    s.display = some d → s.enableIsLow → d.iface = .eight →
    ∃ t d', exec (.writeNibble n m) s = .next t ∧ t.display = some d' ∧ t.enableIsLow ∧
      (m = .command → d'.cgram = d.cgram ∧
        (8 ≤ n.toNat → d' = { d with counter := some (.ddram none) }) ∧
        (4 ≤ n.toNat → n.toNat < 8 → d' = { d with counter := some (.cgram none) }) ∧
        (n.toNat = 3 → d' = { d with twoLines := none, fiveByTen := none }) ∧
        (n.toNat = 2 → d' = { d with iface := .four, twoLines := none, fiveByTen := none }) ∧
        (n.toNat = 1 → d' = { d with counter := d.counter.map Pointer.forget, offset := none }) ∧
        (n.toNat = 0 → d'.iface = .eight)) ∧
      (m = .character →
        d' = { d with ddram := d'.ddram, cgram := d'.cgram, counter := d'.counter, offset := d'.offset } ∧
        d'.offset = (if d.shiftMode = some false then d.offset else none) ∧
        (∀ a, d.counter = some (.ddram (some a)) → ddramExists a = true → d'.cgram = d.cgram ∧
          d'.ddram.read a.toNat = none ∧ ∀ x, x ≠ a.toNat → d'.ddram.read x = d.ddram.read x) ∧
        (∀ a, d.counter = some (.cgram (some a)) → d'.ddram = d.ddram ∧
          d'.cgram.read a.toNat = none ∧ ∀ x, x ≠ a.toNat → d'.cgram.read x = d.cgram.read x))

/-- After DEFINE_GLYPH at a ready controller every display cell that holds the slot's code, or that code and 8, shows the
bitmap: eight rows from the top, in each bits 4 to 0 as five dots from left to right, bits 7 to 5 unused; it does so at
once, also where the cell was written before. A cell with the code of another slot shows what it showed, and a cell with a
code 0x20 to 0x7F the ROM's character (60_exceptions.md section 14, 20_memory.md section 10, from general knowledge; Log
12, 28, 31, 32). -/
def Obligations.GlyphCellsShowTheBitmap : Prop :=
  ∀ (slot : Byte) (bitmap : List Byte) (s : State) (d : Display), s.inProgress = false → s.nextSucceed 72 →
    s.displayReady d → d.increment = some true → slot.toNat < 8 → bitmap.length = 8 →
    ∃ t d', exec (.defineGlyph slot bitmap) s = .next t ∧ t.display = some d' ∧
      ∀ a c, d.ddram.read a = some c →
        (c.toNat < 16 → c.toNat % 8 = slot.toNat → ∃ rows, d'.cellShows a = some (.glyph rows) ∧
          rows.toList.map (Option.map (fun row => row.toList)) = bitmap.map (fun b => some (dotsOf b))) ∧
        (c.toNat < 16 → c.toNat % 8 ≠ slot.toNat → d'.cellShows a = d.cellShows a) ∧
        (0x20 ≤ c.toNat → c.toNat < 0x80 → d'.cellShows a = some (.rom c))
end

