-- ==== Sys2Proof/Laws/Decode.lean ====
section
/-! SUPPORT. The operand layouts: what each part of the decoder gives on what the encoder writes. -/

-- One theorem after another: side by side, each takes a thread with a large stack, which passes the check's memory limit.
set_option Elab.async false

namespace Sys2Proof

theorem takeSeq_seqBytes (l rest : List Byte) : takeSeq (seqBytes l ++ rest) = .ok (l, rest) := by
  induction l with
  | nil => rw [seqBytes, List.singleton_append, takeSeq.eq_def]; rfl
  | cons b l ih => simp [seqBytes, takeSeq, ih]

theorem takeMode_modeByte (m : Mode) (rest : List Byte) : takeMode (modeByte m :: rest) = .ok (m, rest) := by
  cases m <;> simp [takeMode, takeTag, modeByte]

theorem takeLine_lineBytes (l : LineSel) (rest : List Byte) : takeLine (lineBytes l ++ rest) = .ok (l, rest) := by
  cases l <;> simp [takeLine, takeTag, takeByte, lineBytes]

theorem takeBlock_blockBytes (l rest : List Byte) : takeBlock (blockBytes l ++ rest) = .ok (l, rest) := by
  by_cases h : l.length = 8
  · obtain ⟨a, b, c, d, e, f, g, i, rfl⟩ : ∃ a b c d e f g i, l = [a, b, c, d, e, f, g, i] := by
      match l, h with
      | [a, b, c, d, e, f, g, i], _ => exact ⟨a, b, c, d, e, f, g, i, rfl⟩
    simp [blockBytes, takeBlock, takeTag]
  · simp [blockBytes, h, takeBlock, takeTag, takeSeq_seqBytes]

theorem takePosition_positionByte (pos : KeyPlace) (rest : List Byte) :
    takePosition (positionByte pos :: rest) = .ok (pos, rest) := by
  have h : ∀ (p : BitVec 3) (b : Bool), (positionByte ⟨p, b⟩).toNat < 16 ∧ (positionByte ⟨p, b⟩).setWidth 3 = p ∧
      (positionByte ⟨p, b⟩).getLsbD 3 = b := by decide
  obtain ⟨p, b⟩ := pos
  simp only [takePosition, takeByte, h p b, if_true]

end Sys2Proof
end

