-- ==== Sys2Proof/Laws/Memory.lean ====
section
/-! SUPPORT. The controller's memories: a read after a write, and that every memory operation keeps the canonical form. -/

-- One theorem after another: side by side, each takes a thread with a large stack, which passes the check's memory limit.
set_option Elab.async false

namespace Sys2Proof.Machine

@[simp] theorem Memory.read_nil (a : Nat) : Memory.read [] a = none := rfl

@[simp] theorem Memory.read_write_same (m : Memory) (a : Nat) (b : Byte) : (m.write a b).read a = some b := by
  induction m with
  | nil => simp [Memory.write, Memory.read]
  | cons kv m ih =>
    obtain ⟨k, v⟩ := kv
    simp only [Memory.write]
    split
    · simp [Memory.read]
    · split
      · simp [Memory.read]
      · rename_i h
        simp [Memory.read, Ne.symm h, ih]

theorem Memory.read_write_other (m : Memory) {a x : Nat} (b : Byte) (h : x ≠ a) :
    (m.write a b).read x = m.read x := by
  induction m with
  | nil => simp [Memory.write, Memory.read, Ne.symm h]
  | cons kv m ih =>
    obtain ⟨k, v⟩ := kv
    simp only [Memory.write]
    split
    · simp [Memory.read, Ne.symm h]
    · split
      · rename_i hk
        subst hk
        simp [Memory.read, Ne.symm h]
      · simp [Memory.read, ih]

/-- A write keeps the canonical form above any lower limit that admits the address. -/
theorem Memory.write_risingFrom (bound : Nat) (m : Memory) (a : Nat) (b : Byte) (ha : a < bound) :
    ∀ least, least ≤ a → Memory.risingFrom bound least m = true → Memory.risingFrom bound least (m.write a b) = true := by
  induction m with
  | nil => intro least hl _; simp [Memory.write, Memory.risingFrom, hl, ha]
  | cons kv m ih =>
    obtain ⟨k, v⟩ := kv
    intro least hl h
    simp only [Memory.risingFrom, Bool.and_eq_true, decide_eq_true_eq] at h
    obtain ⟨⟨h1, h2⟩, h3⟩ := h
    simp only [Memory.write]
    split
    · rename_i hlt
      simp only [Memory.risingFrom, Bool.and_eq_true, decide_eq_true_eq]
      exact ⟨⟨hl, ha⟩, ⟨hlt, h2⟩, h3⟩
    · split
      · rename_i hk
        subst hk
        simp [Memory.risingFrom, hl, ha, h3]
      · rename_i hn hk
        simp only [Memory.risingFrom, Bool.and_eq_true, decide_eq_true_eq]
        exact ⟨⟨h1, h2⟩, ih (k + 1) (by omega) h3⟩

theorem Memory.write_wf {bound : Nat} {m : Memory} {a : Nat} (b : Byte) (ha : a < bound) (h : m.wf bound = true) :
    (m.write a b).wf bound = true :=
  Memory.write_risingFrom bound m a b ha 0 (Nat.zero_le a) h

@[simp] theorem Memory.nil_wf (bound : Nat) : Memory.wf bound [] = true := rfl

theorem ddramCleared_wf : Memory.wf 128 ddramCleared = true := by decide

/-- A cell of the memory after a write is the one written, or was there before. -/
theorem Memory.mem_write {m : Memory} {a x : Nat} {b y : Byte} (h : (x, y) ∈ m.write a b) :
    (x, y) = (a, b) ∨ (x, y) ∈ m := by
  induction m with
  | nil => exact Or.inl (by simpa [Memory.write] using h)
  | cons kv m ih =>
    obtain ⟨k, v⟩ := kv
    simp only [Memory.write] at h
    split at h
    · rcases List.mem_cons.mp h with h | h
      · exact Or.inl h
      · exact Or.inr h
    · split at h
      · rcases List.mem_cons.mp h with h | h
        · exact Or.inl h
        · exact Or.inr (List.mem_cons_of_mem _ h)
      · rcases List.mem_cons.mp h with h | h
        · exact Or.inr (by simp [h])
        · rcases ih h with h | h
          · exact Or.inl h
          · exact Or.inr (List.mem_cons_of_mem _ h)

/-- The canonical form above a limit holds above every smaller one. -/
theorem Memory.risingFrom_mono {bound l l' : Nat} {m : Memory} (h : l' ≤ l)
    (hm : Memory.risingFrom bound l m = true) : Memory.risingFrom bound l' m = true := by
  cases m with
  | nil => rfl
  | cons kv m =>
    simp only [Memory.risingFrom, Bool.and_eq_true, decide_eq_true_eq] at hm ⊢
    exact ⟨⟨by omega, hm.1.2⟩, hm.2⟩

/-- Leaving cells out keeps the canonical form. -/
theorem Memory.filter_risingFrom (bound : Nat) (p : Host.Cell → Bool) (m : Memory) :
    ∀ l, Memory.risingFrom bound l m = true → Memory.risingFrom bound l (m.filter p) = true := by
  induction m with
  | nil => intro l _; rfl
  | cons kv m ih =>
    intro l h
    simp only [Memory.risingFrom, Bool.and_eq_true, decide_eq_true_eq] at h
    cases hp : p kv with
    | true =>
      rw [List.filter_cons_of_pos hp]
      simp only [Memory.risingFrom, Bool.and_eq_true, decide_eq_true_eq]
      exact ⟨h.1, ih _ h.2⟩
    | false =>
      rw [List.filter_cons_of_neg (by simp [hp])]
      exact Memory.risingFrom_mono (by omega) (ih _ h.2)

theorem Memory.agree_wf {bound : Nat} {m1 : Memory} (m2 : Memory) (h : m1.wf bound = true) :
    (m1.agree m2).wf bound = true :=
  Memory.filter_risingFrom bound _ m1 0 h

theorem Memory.forget_wf {bound : Nat} {m : Memory} (a : Nat) (h : m.wf bound = true) :
    (m.forget a).wf bound = true :=
  Memory.filter_risingFrom bound _ m 0 h

theorem Memory.store_wf {bound : Nat} {m : Memory} {a : Nat} (b : Option Byte) (ha : a < bound) (h : m.wf bound = true) :
    (m.store a b).wf bound = true := by
  cases b with
  | some b => exact Memory.write_wf b ha h
  | none => exact Memory.forget_wf a h

@[simp] theorem Memory.read_forget_same (m : Memory) (a : Nat) : (m.forget a).read a = none := by
  induction m with
  | nil => rfl
  | cons kv m ih =>
    obtain ⟨k, v⟩ := kv
    by_cases h : k = a
    · simpa [Memory.forget, h] using ih
    · simpa [Memory.forget, Memory.read, h] using ih

theorem Memory.read_forget_other (m : Memory) {a x : Nat} (h : x ≠ a) : (m.forget a).read x = m.read x := by
  induction m with
  | nil => rfl
  | cons kv m ih =>
    obtain ⟨k, v⟩ := kv
    by_cases hk : k = a
    · subst hk
      simpa [Memory.forget, Memory.read, Ne.symm h] using ih
    · by_cases hx : k = x
      · simp [Memory.forget, Memory.read, hx, h]
      · simpa [Memory.forget, Memory.read, hk, hx] using ih

/-- What a store leaves at its address, and that it leaves every other. -/
@[simp] theorem Memory.read_store_same (m : Memory) (a : Nat) (b : Option Byte) : (m.store a b).read a = b := by
  cases b <;> simp [Memory.store]

theorem Memory.read_store_other (m : Memory) {a x : Nat} (b : Option Byte) (h : x ≠ a) :
    (m.store a b).read x = m.read x := by
  cases b with
  | some b => exact Memory.read_write_other m b h
  | none => exact Memory.read_forget_other m h

/-- A cell of the memory after a store is the one stored, or was there before. -/
theorem Memory.mem_store {m : Memory} {a x : Nat} {b : Option Byte} {y : Byte} (h : (x, y) ∈ m.store a b) :
    (x = a ∧ b = some y) ∨ (x, y) ∈ m := by
  cases b with
  | some b => rcases Memory.mem_write h with h | h <;> simp_all
  | none => exact .inr (List.mem_of_mem_filter h)

/-- A cell on which two memories agree is a cell of both. -/
theorem Memory.mem_agree {m1 m2 : Memory} {a : Nat} {b : Byte} (h : (a, b) ∈ m1.agree m2) :
    (a, b) ∈ m1 ∧ m2.read a = some b := by
  simpa [Memory.agree] using h

end Sys2Proof.Machine
end

