-- ==== Sys2Proof/Laws/State.lean ====
section
/-! SUPPORT. One lemma per field per update of the state, true by rfl. -/

-- One theorem after another: side by side, each takes a thread with a large stack, which passes the check's memory limit.
set_option Elab.async false

namespace Sys2Proof.Machine

@[simp] theorem State.finish_frame (r : Result) (s : State) : (s.finish r).frame = s.frame := rfl
@[simp] theorem State.finish_shift (r : Result) (s : State) : (s.finish r).shift = s.shift := rfl
@[simp] theorem State.finish_result (r : Result) (s : State) : (s.finish r).result = s.result := rfl
@[simp] theorem State.finish_fi (r : Result) (s : State) : (s.finish r).fi = s.fi := rfl
@[simp] theorem State.finish_seqStep (r : Result) (s : State) : (s.finish r).seqStep = s.seqStep := rfl
@[simp] theorem State.finish_opWrites (r : Result) (s : State) : (s.finish r).opWrites = s.opWrites := rfl
@[simp] theorem State.finish_inProgress (r : Result) (s : State) : (s.finish r).inProgress = s.inProgress := rfl
@[simp] theorem State.finish_cfg (r : Result) (s : State) : (s.finish r).cfg = s.cfg := rfl
@[simp] theorem State.finish_lines (r : Result) (s : State) : (s.finish r).lines = s.lines := rfl
@[simp] theorem State.finish_display (r : Result) (s : State) : (s.finish r).display = s.display := rfl
@[simp] theorem State.finish_requests (r : Result) (s : State) : (s.finish r).requests = s.requests := rfl
@[simp] theorem State.finish_answers (r : Result) (s : State) : (s.finish r).answers = s.answers := rfl
@[simp] theorem State.finish_busCount (r : Result) (s : State) : (s.finish r).busCount = s.busCount := rfl
@[simp] theorem State.finish_trace (r : Result) (s : State) : (s.finish r).trace = s.trace := rfl
@[simp] theorem State.finish_results (r : Result) (s : State) : (s.finish r).results = s.results ++ [r] := rfl

@[simp] theorem State.started_frame (s : State) : (s.started).frame = s.frame := rfl
@[simp] theorem State.started_shift (s : State) : (s.started).shift = s.shift := rfl
@[simp] theorem State.started_result (s : State) : (s.started).result = s.result := rfl
@[simp] theorem State.started_fi (s : State) : (s.started).fi = 0 := rfl
@[simp] theorem State.started_seqStep (s : State) : (s.started).seqStep = 0 := rfl
@[simp] theorem State.started_opWrites (s : State) : (s.started).opWrites = 0 := rfl
@[simp] theorem State.started_inProgress (s : State) : (s.started).inProgress = s.inProgress := rfl
@[simp] theorem State.started_cfg (s : State) : (s.started).cfg = s.cfg := rfl
@[simp] theorem State.started_lines (s : State) : (s.started).lines = s.lines := rfl
@[simp] theorem State.started_display (s : State) : (s.started).display = s.display := rfl
@[simp] theorem State.started_requests (s : State) : (s.started).requests = s.requests := rfl
@[simp] theorem State.started_answers (s : State) : (s.started).answers = s.answers := rfl
@[simp] theorem State.started_busCount (s : State) : (s.started).busCount = s.busCount := rfl
@[simp] theorem State.started_trace (s : State) : (s.started).trace = s.trace := rfl
@[simp] theorem State.started_results (s : State) : (s.started).results = s.results := rfl

@[simp] theorem State.idled_frame (s : State) : (s.idled).frame = s.frame := rfl
@[simp] theorem State.idled_shift (s : State) : (s.idled).shift = s.shift := rfl
@[simp] theorem State.idled_result (s : State) : (s.idled).result = s.result := rfl
@[simp] theorem State.idled_fi (s : State) : (s.idled).fi = s.fi := rfl
@[simp] theorem State.idled_seqStep (s : State) : (s.idled).seqStep = s.seqStep := rfl
@[simp] theorem State.idled_opWrites (s : State) : (s.idled).opWrites = s.opWrites := rfl
@[simp] theorem State.idled_inProgress (s : State) : (s.idled).inProgress = false := rfl
@[simp] theorem State.idled_cfg (s : State) : (s.idled).cfg = s.cfg := rfl
@[simp] theorem State.idled_lines (s : State) : (s.idled).lines = s.lines := rfl
@[simp] theorem State.idled_display (s : State) : (s.idled).display = s.display := rfl
@[simp] theorem State.idled_requests (s : State) : (s.idled).requests = s.requests := rfl
@[simp] theorem State.idled_answers (s : State) : (s.idled).answers = s.answers := rfl
@[simp] theorem State.idled_busCount (s : State) : (s.idled).busCount = s.busCount := rfl
@[simp] theorem State.idled_trace (s : State) : (s.idled).trace = s.trace := rfl
@[simp] theorem State.idled_results (s : State) : (s.idled).results = s.results := rfl

@[simp] theorem State.emit_frame (e : Event) (s : State) : (s.emit e).frame = s.frame := rfl
@[simp] theorem State.emit_shift (e : Event) (s : State) : (s.emit e).shift = s.shift := rfl
@[simp] theorem State.emit_result (e : Event) (s : State) : (s.emit e).result = s.result := rfl
@[simp] theorem State.emit_fi (e : Event) (s : State) : (s.emit e).fi = s.fi := rfl
@[simp] theorem State.emit_seqStep (e : Event) (s : State) : (s.emit e).seqStep = s.seqStep + 1 := rfl
@[simp] theorem State.emit_opWrites (e : Event) (s : State) : (s.emit e).opWrites = s.opWrites := rfl
@[simp] theorem State.emit_inProgress (e : Event) (s : State) : (s.emit e).inProgress = s.inProgress := rfl
@[simp] theorem State.emit_cfg (e : Event) (s : State) : (s.emit e).cfg = s.cfg := rfl
@[simp] theorem State.emit_lines (e : Event) (s : State) : (s.emit e).lines = s.lines := rfl
@[simp] theorem State.emit_display (e : Event) (s : State) : (s.emit e).display = s.display := rfl
@[simp] theorem State.emit_requests (e : Event) (s : State) : (s.emit e).requests = s.requests := rfl
@[simp] theorem State.emit_answers (e : Event) (s : State) : (s.emit e).answers = s.answers := rfl
@[simp] theorem State.emit_busCount (e : Event) (s : State) : (s.emit e).busCount = s.busCount := rfl
@[simp] theorem State.emit_trace (e : Event) (s : State) : (s.emit e).trace = s.trace ++ [e] := rfl
@[simp] theorem State.emit_results (e : Event) (s : State) : (s.emit e).results = s.results := rfl

@[simp] theorem State.delayed_frame (k : DelayKind) (s : State) : (s.delayed k).frame = s.frame := rfl
@[simp] theorem State.delayed_shift (k : DelayKind) (s : State) : (s.delayed k).shift = s.shift := rfl
@[simp] theorem State.delayed_result (k : DelayKind) (s : State) : (s.delayed k).result = s.result := rfl
@[simp] theorem State.delayed_fi (k : DelayKind) (s : State) : (s.delayed k).fi = s.fi := rfl
@[simp] theorem State.delayed_seqStep (k : DelayKind) (s : State) : (s.delayed k).seqStep = s.seqStep + 1 := rfl
@[simp] theorem State.delayed_opWrites (k : DelayKind) (s : State) : (s.delayed k).opWrites = s.opWrites := rfl
@[simp] theorem State.delayed_inProgress (k : DelayKind) (s : State) : (s.delayed k).inProgress = s.inProgress := rfl
@[simp] theorem State.delayed_cfg (k : DelayKind) (s : State) : (s.delayed k).cfg = s.cfg := rfl
@[simp] theorem State.delayed_lines (k : DelayKind) (s : State) : (s.delayed k).lines = s.lines := rfl
@[simp] theorem State.delayed_display (k : DelayKind) (s : State) : (s.delayed k).display = s.display := rfl
@[simp] theorem State.delayed_requests (k : DelayKind) (s : State) : (s.delayed k).requests = s.requests := rfl
@[simp] theorem State.delayed_answers (k : DelayKind) (s : State) : (s.delayed k).answers = s.answers := rfl
@[simp] theorem State.delayed_busCount (k : DelayKind) (s : State) : (s.delayed k).busCount = s.busCount := rfl
@[simp] theorem State.delayed_trace (k : DelayKind) (s : State) : (s.delayed k).trace = s.trace ++ [.d k] := rfl
@[simp] theorem State.delayed_results (k : DelayKind) (s : State) : (s.delayed k).results = s.results := rfl

@[simp] theorem State.answered_frame (s : State) : (s.answered).frame = s.frame := rfl
@[simp] theorem State.answered_shift (s : State) : (s.answered).shift = s.shift := rfl
@[simp] theorem State.answered_result (s : State) : (s.answered).result = s.result := rfl
@[simp] theorem State.answered_fi (s : State) : (s.answered).fi = s.fi := rfl
@[simp] theorem State.answered_seqStep (s : State) : (s.answered).seqStep = s.seqStep := rfl
@[simp] theorem State.answered_opWrites (s : State) : (s.answered).opWrites = s.opWrites := rfl
@[simp] theorem State.answered_inProgress (s : State) : (s.answered).inProgress = s.inProgress := rfl
@[simp] theorem State.answered_cfg (s : State) : (s.answered).cfg = s.cfg := rfl
@[simp] theorem State.answered_lines (s : State) : (s.answered).lines = s.lines := rfl
@[simp] theorem State.answered_display (s : State) : (s.answered).display = s.display := rfl
@[simp] theorem State.answered_requests (s : State) : (s.answered).requests = s.requests := rfl
@[simp] theorem State.answered_answers (s : State) : (s.answered).answers = s.answers.tail := rfl
@[simp] theorem State.answered_busCount (s : State) : (s.answered).busCount = s.busCount + 1 := rfl
@[simp] theorem State.answered_trace (s : State) : (s.answered).trace = s.trace := rfl
@[simp] theorem State.answered_results (s : State) : (s.answered).results = s.results := rfl

@[simp] theorem State.busWritten_frame (b : Byte) (s : State) : (s.busWritten b).frame = s.frame := rfl
@[simp] theorem State.busWritten_shift (b : Byte) (s : State) : (s.busWritten b).shift = s.shift := rfl
@[simp] theorem State.busWritten_result (b : Byte) (s : State) : (s.busWritten b).result = s.result := rfl
@[simp] theorem State.busWritten_fi (b : Byte) (s : State) : (s.busWritten b).fi = s.fi := rfl
@[simp] theorem State.busWritten_seqStep (b : Byte) (s : State) : (s.busWritten b).seqStep = s.seqStep + 1 := rfl
@[simp] theorem State.busWritten_opWrites (b : Byte) (s : State) : (s.busWritten b).opWrites = s.opWrites + 1 := rfl
@[simp] theorem State.busWritten_inProgress (b : Byte) (s : State) : (s.busWritten b).inProgress = s.inProgress := rfl
@[simp] theorem State.busWritten_cfg (b : Byte) (s : State) : (s.busWritten b).cfg = s.cfg := rfl
@[simp] theorem State.busWritten_lines (b : Byte) (s : State) : (s.busWritten b).lines = some b := rfl
@[simp] theorem State.busWritten_display (b : Byte) (s : State) : (s.busWritten b).display = s.display.map (Display.onWrite s.lines b) := rfl
@[simp] theorem State.busWritten_requests (b : Byte) (s : State) : (s.busWritten b).requests = s.requests := rfl
@[simp] theorem State.busWritten_answers (b : Byte) (s : State) : (s.busWritten b).answers = s.answers.tail := rfl
@[simp] theorem State.busWritten_busCount (b : Byte) (s : State) : (s.busWritten b).busCount = s.busCount + 1 := rfl
@[simp] theorem State.busWritten_trace (b : Byte) (s : State) : (s.busWritten b).trace = s.trace ++ [.w s.cfg.busAddr b] := rfl
@[simp] theorem State.busWritten_results (b : Byte) (s : State) : (s.busWritten b).results = s.results := rfl

@[simp] theorem State.raiseBusFailure_frame (b : Byte) (s : State) : (s.raiseBusFailure b).frame = s.frame := rfl
@[simp] theorem State.raiseBusFailure_shift (b : Byte) (s : State) : (s.raiseBusFailure b).shift = s.shift := rfl
@[simp] theorem State.raiseBusFailure_result (b : Byte) (s : State) : (s.raiseBusFailure b).result = s.result := rfl
@[simp] theorem State.raiseBusFailure_fi (b : Byte) (s : State) : (s.raiseBusFailure b).fi = s.fi := rfl
@[simp] theorem State.raiseBusFailure_seqStep (b : Byte) (s : State) : (s.raiseBusFailure b).seqStep = s.seqStep + 1 := rfl
@[simp] theorem State.raiseBusFailure_opWrites (b : Byte) (s : State) : (s.raiseBusFailure b).opWrites = s.opWrites := rfl
@[simp] theorem State.raiseBusFailure_inProgress (b : Byte) (s : State) : (s.raiseBusFailure b).inProgress = s.inProgress := rfl
@[simp] theorem State.raiseBusFailure_cfg (b : Byte) (s : State) : (s.raiseBusFailure b).cfg = s.cfg := rfl
@[simp] theorem State.raiseBusFailure_lines (b : Byte) (s : State) : (s.raiseBusFailure b).lines = none := rfl
@[simp] theorem State.raiseBusFailure_display (b : Byte) (s : State) : (s.raiseBusFailure b).display = none := rfl
@[simp] theorem State.raiseBusFailure_requests (b : Byte) (s : State) : (s.raiseBusFailure b).requests = s.requests := rfl
@[simp] theorem State.raiseBusFailure_answers (b : Byte) (s : State) : (s.raiseBusFailure b).answers = s.answers.tail := rfl
@[simp] theorem State.raiseBusFailure_busCount (b : Byte) (s : State) : (s.raiseBusFailure b).busCount = s.busCount + 1 := rfl
@[simp] theorem State.raiseBusFailure_trace (b : Byte) (s : State) : (s.raiseBusFailure b).trace = s.trace ++ [.f s.cfg.busAddr b] := rfl
@[simp] theorem State.raiseBusFailure_results (b : Byte) (s : State) : (s.raiseBusFailure b).results = s.results ++ [.busFailure b s.opWrites] := rfl

@[simp] theorem State.loadFrame_frame (f : Frame) (s : State) : (s.loadFrame f).frame = f := rfl
@[simp] theorem State.loadFrame_shift (f : Frame) (s : State) : (s.loadFrame f).shift = shiftFlag f.mod := rfl
@[simp] theorem State.loadFrame_result (f : Frame) (s : State) : (s.loadFrame f).result = s.result := rfl
@[simp] theorem State.loadFrame_fi (f : Frame) (s : State) : (s.loadFrame f).fi = s.fi := rfl
@[simp] theorem State.loadFrame_seqStep (f : Frame) (s : State) : (s.loadFrame f).seqStep = s.seqStep := rfl
@[simp] theorem State.loadFrame_opWrites (f : Frame) (s : State) : (s.loadFrame f).opWrites = s.opWrites := rfl
@[simp] theorem State.loadFrame_inProgress (f : Frame) (s : State) : (s.loadFrame f).inProgress = s.inProgress := rfl
@[simp] theorem State.loadFrame_cfg (f : Frame) (s : State) : (s.loadFrame f).cfg = s.cfg := rfl
@[simp] theorem State.loadFrame_lines (f : Frame) (s : State) : (s.loadFrame f).lines = s.lines := rfl
@[simp] theorem State.loadFrame_display (f : Frame) (s : State) : (s.loadFrame f).display = s.display := rfl
@[simp] theorem State.loadFrame_requests (f : Frame) (s : State) : (s.loadFrame f).requests = s.requests := rfl
@[simp] theorem State.loadFrame_answers (f : Frame) (s : State) : (s.loadFrame f).answers = s.answers := rfl
@[simp] theorem State.loadFrame_busCount (f : Frame) (s : State) : (s.loadFrame f).busCount = s.busCount := rfl
@[simp] theorem State.loadFrame_trace (f : Frame) (s : State) : (s.loadFrame f).trace = s.trace := rfl
@[simp] theorem State.loadFrame_results (f : Frame) (s : State) : (s.loadFrame f).results = s.results := rfl

@[simp] theorem State.appendResult_frame (v : FrameValue) (s : State) : (s.appendResult v).frame = s.frame := by
  cases v <;> rfl
@[simp] theorem State.appendResult_shift (v : FrameValue) (s : State) : (s.appendResult v).shift = s.shift := by
  cases v <;> rfl
@[simp] theorem State.appendResult_fi (v : FrameValue) (s : State) : (s.appendResult v).fi = s.fi := by
  cases v <;> rfl
@[simp] theorem State.appendResult_seqStep (v : FrameValue) (s : State) : (s.appendResult v).seqStep = s.seqStep := by
  cases v <;> rfl
@[simp] theorem State.appendResult_opWrites (v : FrameValue) (s : State) : (s.appendResult v).opWrites = s.opWrites := by
  cases v <;> rfl
@[simp] theorem State.appendResult_inProgress (v : FrameValue) (s : State) : (s.appendResult v).inProgress = s.inProgress := by
  cases v <;> rfl
@[simp] theorem State.appendResult_cfg (v : FrameValue) (s : State) : (s.appendResult v).cfg = s.cfg := by
  cases v <;> rfl
@[simp] theorem State.appendResult_lines (v : FrameValue) (s : State) : (s.appendResult v).lines = s.lines := by
  cases v <;> rfl
@[simp] theorem State.appendResult_display (v : FrameValue) (s : State) : (s.appendResult v).display = s.display := by
  cases v <;> rfl
@[simp] theorem State.appendResult_requests (v : FrameValue) (s : State) : (s.appendResult v).requests = s.requests := by
  cases v <;> rfl
@[simp] theorem State.appendResult_answers (v : FrameValue) (s : State) : (s.appendResult v).answers = s.answers := by
  cases v <;> rfl
@[simp] theorem State.appendResult_busCount (v : FrameValue) (s : State) : (s.appendResult v).busCount = s.busCount := by
  cases v <;> rfl
@[simp] theorem State.appendResult_trace (v : FrameValue) (s : State) : (s.appendResult v).trace = s.trace := by
  cases v <;> rfl
@[simp] theorem State.appendResult_results (v : FrameValue) (s : State) : (s.appendResult v).results = s.results := by
  cases v <;> rfl

@[simp] theorem State.appendResult_empty (s : State) : s.appendResult .empty = s := rfl

@[simp] theorem State.appendResult_char_result (c : Byte) (s : State) :
    (s.appendResult (.char c)).result = s.result ++ [c] := rfl

@[simp] theorem State.taken_frame (r : Request) (rest : List Request) (s : State) : (s.taken r rest).frame = s.frame := rfl
@[simp] theorem State.taken_shift (r : Request) (rest : List Request) (s : State) : (s.taken r rest).shift = s.shift := rfl
@[simp] theorem State.taken_result (r : Request) (rest : List Request) (s : State) : (s.taken r rest).result = s.result := rfl
@[simp] theorem State.taken_fi (r : Request) (rest : List Request) (s : State) : (s.taken r rest).fi = s.fi := rfl
@[simp] theorem State.taken_seqStep (r : Request) (rest : List Request) (s : State) : (s.taken r rest).seqStep = s.seqStep := rfl
@[simp] theorem State.taken_opWrites (r : Request) (rest : List Request) (s : State) : (s.taken r rest).opWrites = s.opWrites := rfl
@[simp] theorem State.taken_inProgress (r : Request) (rest : List Request) (s : State) : (s.taken r rest).inProgress = r.during := rfl
@[simp] theorem State.taken_cfg (r : Request) (rest : List Request) (s : State) : (s.taken r rest).cfg = s.cfg := rfl
@[simp] theorem State.taken_lines (r : Request) (rest : List Request) (s : State) : (s.taken r rest).lines = s.lines := rfl
@[simp] theorem State.taken_display (r : Request) (rest : List Request) (s : State) : (s.taken r rest).display = s.display := rfl
@[simp] theorem State.taken_requests (r : Request) (rest : List Request) (s : State) : (s.taken r rest).requests = rest := rfl
@[simp] theorem State.taken_answers (r : Request) (rest : List Request) (s : State) : (s.taken r rest).answers = s.answers := rfl
@[simp] theorem State.taken_busCount (r : Request) (rest : List Request) (s : State) : (s.taken r rest).busCount = s.busCount := rfl
@[simp] theorem State.taken_trace (r : Request) (rest : List Request) (s : State) : (s.taken r rest).trace = s.trace := rfl
@[simp] theorem State.taken_results (r : Request) (rest : List Request) (s : State) : (s.taken r rest).results = s.results := rfl

@[simp] theorem State.refuseBadOp_frame (s : State) : (s.refuseBadOp).frame = s.frame := rfl
@[simp] theorem State.refuseBadOp_shift (s : State) : (s.refuseBadOp).shift = s.shift := rfl
@[simp] theorem State.refuseBadOp_result (s : State) : (s.refuseBadOp).result = s.result := rfl
@[simp] theorem State.refuseBadOp_fi (s : State) : (s.refuseBadOp).fi = s.fi := rfl
@[simp] theorem State.refuseBadOp_seqStep (s : State) : (s.refuseBadOp).seqStep = s.seqStep := rfl
@[simp] theorem State.refuseBadOp_opWrites (s : State) : (s.refuseBadOp).opWrites = s.opWrites := rfl
@[simp] theorem State.refuseBadOp_inProgress (s : State) : (s.refuseBadOp).inProgress = s.inProgress := rfl
@[simp] theorem State.refuseBadOp_cfg (s : State) : (s.refuseBadOp).cfg = s.cfg := rfl
@[simp] theorem State.refuseBadOp_lines (s : State) : (s.refuseBadOp).lines = s.lines := rfl
@[simp] theorem State.refuseBadOp_display (s : State) : (s.refuseBadOp).display = s.display := rfl
@[simp] theorem State.refuseBadOp_requests (s : State) : (s.refuseBadOp).requests = s.requests := rfl
@[simp] theorem State.refuseBadOp_answers (s : State) : (s.refuseBadOp).answers = s.answers := rfl
@[simp] theorem State.refuseBadOp_busCount (s : State) : (s.refuseBadOp).busCount = s.busCount := rfl
@[simp] theorem State.refuseBadOp_trace (s : State) : (s.refuseBadOp).trace = s.trace := rfl
@[simp] theorem State.refuseBadOp_results (s : State) : (s.refuseBadOp).results = s.results ++ [.refused .badOp] := rfl

@[simp] theorem State.decodeFrame_frame (f : Frame) (s : State) : (s.decodeFrame f).frame = f := rfl
@[simp] theorem State.decodeFrame_shift (f : Frame) (s : State) : (s.decodeFrame f).shift = shiftFlag f.mod := rfl
@[simp] theorem State.decodeFrame_result (f : Frame) (s : State) : (s.decodeFrame f).result = s.result := rfl
@[simp] theorem State.decodeFrame_fi (f : Frame) (s : State) : (s.decodeFrame f).fi = s.fi := rfl
@[simp] theorem State.decodeFrame_seqStep (f : Frame) (s : State) : (s.decodeFrame f).seqStep = s.seqStep := rfl
@[simp] theorem State.decodeFrame_opWrites (f : Frame) (s : State) : (s.decodeFrame f).opWrites = s.opWrites := rfl
@[simp] theorem State.decodeFrame_inProgress (f : Frame) (s : State) : (s.decodeFrame f).inProgress = s.inProgress := rfl
@[simp] theorem State.decodeFrame_cfg (f : Frame) (s : State) : (s.decodeFrame f).cfg = s.cfg := rfl
@[simp] theorem State.decodeFrame_lines (f : Frame) (s : State) : (s.decodeFrame f).lines = s.lines := rfl
@[simp] theorem State.decodeFrame_display (f : Frame) (s : State) : (s.decodeFrame f).display = s.display := rfl
@[simp] theorem State.decodeFrame_requests (f : Frame) (s : State) : (s.decodeFrame f).requests = s.requests := rfl
@[simp] theorem State.decodeFrame_answers (f : Frame) (s : State) : (s.decodeFrame f).answers = s.answers := rfl
@[simp] theorem State.decodeFrame_busCount (f : Frame) (s : State) : (s.decodeFrame f).busCount = s.busCount := rfl
@[simp] theorem State.decodeFrame_trace (f : Frame) (s : State) : (s.decodeFrame f).trace = s.trace := rfl
@[simp] theorem State.decodeFrame_results (f : Frame) (s : State) :
    (s.decodeFrame f).results = s.results ++ [.frame (s.loadFrame f).decodeLoaded.1 (s.loadFrame f).decodeLoaded.2] := rfl

@[simp] theorem State.restart_frame (cfg : CoreConfig) (s : State) : (s.restart cfg).frame = State.reset.frame := rfl
@[simp] theorem State.restart_shift (cfg : CoreConfig) (s : State) : (s.restart cfg).shift = State.reset.shift := rfl
@[simp] theorem State.restart_result (cfg : CoreConfig) (s : State) : (s.restart cfg).result = State.reset.result := rfl
@[simp] theorem State.restart_fi (cfg : CoreConfig) (s : State) : (s.restart cfg).fi = State.reset.fi := rfl
@[simp] theorem State.restart_seqStep (cfg : CoreConfig) (s : State) : (s.restart cfg).seqStep = State.reset.seqStep := rfl
@[simp] theorem State.restart_opWrites (cfg : CoreConfig) (s : State) : (s.restart cfg).opWrites = State.reset.opWrites := rfl
@[simp] theorem State.restart_inProgress (cfg : CoreConfig) (s : State) : (s.restart cfg).inProgress = State.reset.inProgress := rfl
@[simp] theorem State.restart_cfg (cfg : CoreConfig) (s : State) : (s.restart cfg).cfg = cfg := rfl
@[simp] theorem State.restart_lines (cfg : CoreConfig) (s : State) : (s.restart cfg).lines = s.lines := rfl
@[simp] theorem State.restart_display (cfg : CoreConfig) (s : State) : (s.restart cfg).display = s.display := rfl
@[simp] theorem State.restart_requests (cfg : CoreConfig) (s : State) : (s.restart cfg).requests = State.reset.requests := rfl
@[simp] theorem State.restart_answers (cfg : CoreConfig) (s : State) : (s.restart cfg).answers = s.answers := rfl
@[simp] theorem State.restart_busCount (cfg : CoreConfig) (s : State) : (s.restart cfg).busCount = s.busCount := rfl
@[simp] theorem State.restart_trace (cfg : CoreConfig) (s : State) : (s.restart cfg).trace = State.reset.trace := rfl
@[simp] theorem State.restart_results (cfg : CoreConfig) (s : State) : (s.restart cfg).results = State.reset.results := rfl

end Sys2Proof.Machine
end

