-- ==== Sys2Proof/Laws/Ops.lean ====
section
/-! SUPPORT. For each shared operation one lemma that says what it can do. -/

-- One theorem after another: side by side, each takes a thread with a large stack, which passes the check's memory limit.
set_option Elab.async false

namespace Sys2Proof.Machine

/-- A request the core accepts runs; `pre` is the reason its operands give. -/
theorem accept_idle {run : State → State} {s : State} (h : s.inProgress = false) :
    accept none run s = .next (run s.started) := by
  simp [accept, refusalReason, h]

/-- A request with a reason of its own is refused, and nothing else happens. -/
theorem accept_refused (r : Reason) (run : State → State) (s : State) :
    accept (some r) run s = .next { s with results := s.results ++ [.refused r] } := rfl

/-- A request made during an operation is refused with Busy. -/
theorem accept_busy {run : State → State} {s : State} (h : s.inProgress = true) :
    accept none run s = .next { s with results := s.results ++ [.refused .busy] } := by
  simp [accept, refusalReason, h, State.finish]

/-- Everything a request can come to. -/
theorem accept_cases (pre : Option Reason) (run : State → State) (s : State) :
    (∃ r, accept pre run s = .next (s.finish (.refused r))) ∨
      (pre = none ∧ s.inProgress = false ∧ accept pre run s = .next (run s.started)) := by
  cases pre with
  | some r => exact .inl ⟨r, rfl⟩
  | none =>
    cases h : s.inProgress with
    | false => exact .inr ⟨rfl, rfl, accept_idle h⟩
    | true => exact .inl ⟨.busy, accept_busy h⟩

@[simp] theorem State.answerAt_zero (s : State) : s.answerAt 0 = s.answer := by
  cases h : s.answers <;> simp [State.answerAt, State.answer, h]

theorem State.answerAt_busWritten (b : Byte) (s : State) (j : Nat) :
    (s.busWritten b).answerAt j = s.answerAt (j + 1) := by
  cases h : s.answers <;> simp [State.answerAt, h, Nat.add_comm, Nat.add_left_comm]

@[simp] theorem State.answerAt_delayed (k : DelayKind) (s : State) (j : Nat) :
    (s.delayed k).answerAt j = s.answerAt j := rfl

@[simp] theorem State.answerAt_started (s : State) (j : Nat) : s.started.answerAt j = s.answerAt j := rfl

/-- The events of a plan whose writes all succeed. -/
def actEvents (addr : BitVec 7) : List Act → List Event
  | [] => []
  | .write b :: acts => .w addr b :: actEvents addr acts
  | .wait t :: acts => .d t :: actEvents addr acts

@[simp] theorem actEvents_append (addr : BitVec 7) (a b : List Act) :
    actEvents addr (a ++ b) = actEvents addr a ++ actEvents addr b := by
  induction a with
  | nil => rfl
  | cons x a ih => cases x <;> simp [actEvents, ih]

/-- Everything running a plan does to the core, the environment and the observer's record: the events come one by one
until a write fails, the result is Ok or that failure, and the rest of the core is as it was. -/
theorem runActs_spec (acts : List Act) : ∀ (s : State) (ans : Nat → Bool),
    (∀ k, ans (s.opWrites + k) = s.answerAt k) →
    let out := issue ans s.opWrites (actEvents s.cfg.busAddr acts)
    let t := runActs acts s
    t.trace = s.trace ++ out.1 ∧ t.results = s.results ++ [out.2] ∧ t.fi = s.fi ∧
      t.seqStep = s.seqStep + out.1.length ∧ t.opWrites = s.opWrites + out.1.countP Event.isWrite ∧
      t.answers = s.answers.drop (out.1.countP Event.isBus) ∧
      t.busCount = s.busCount + out.1.countP Event.isBus ∧ KeepsCore s t := by
  induction acts with
  | nil => intro s ans _; simp [runActs, issue, actEvents, KeepsCore]
  | cons act acts ih =>
    intro s ans h
    cases act with
    | wait k =>
      have ih' := ih (s.delayed k) ans (fun j => by simpa using h j)
      simp only [State.delayed_opWrites, State.delayed_cfg] at ih'
      simp only [runActs, actEvents, issue]
      obtain ⟨h1, h2, h3, h4, h5, h6, h7, h8⟩ := ih'
      refine ⟨?_, ?_, ?_, ?_, ?_, ?_, ?_, ?_⟩
      · simpa using h1
      · simpa using h2
      · simpa using h3
      · rw [h4]; simp [Nat.add_assoc, Nat.add_comm]
      · simpa [Event.isWrite] using h5
      · simpa [Event.isBus] using h6
      · simpa [Event.isBus] using h7
      · simpa [KeepsCore] using h8
    | write b =>
      have h0 : ans s.opWrites = s.answer := by simpa using h 0
      cases ha : s.answer with
      | false => simp [runActs, actEvents, issue, h0, ha, KeepsCore, Event.isWrite, Event.isBus]
      | true =>
        have ih' := ih (s.busWritten b) ans (fun j => by
          rw [State.answerAt_busWritten, ← h (j + 1)]
          exact congrArg ans (by simp only [State.busWritten_opWrites]; omega))
        simp only [State.busWritten_opWrites, State.busWritten_cfg] at ih'
        simp only [runActs, actEvents, issue, h0, ha, if_true]
        obtain ⟨h1, h2, h3, h4, h5, h6, h7, h8⟩ := ih'
        refine ⟨?_, ?_, ?_, ?_, ?_, ?_, ?_, ?_⟩
        · simpa using h1
        · simpa using h2
        · simpa using h3
        · rw [h4, List.length_cons, State.busWritten_seqStep]; omega
        · rw [h5, List.countP_cons_of_pos rfl]; omega
        · rw [h6, List.countP_cons_of_pos rfl, State.busWritten_answers, List.drop_tail]
        · rw [h7, List.countP_cons_of_pos rfl, State.busWritten_busCount]; omega
        · simpa [KeepsCore] using h8

/-- What the request port can give. -/
theorem fetch_cases (s : State) :
    (s.requests = [] ∧ s.fetch = .idle) ∨
      ∃ r rest, s.requests = r :: rest ∧
        ((∃ i, decodeWhole r.format r.bytes = .ok i ∧ s.fetch = .instr i (s.taken r rest)) ∨
          (∃ f w, decodeWhole r.format r.bytes = .error (.noSuchRow f w) ∧ s.fetch = .noSuchRow (s.taken r rest)) ∨
          (∃ e, (∀ f w, e ≠ .noSuchRow f w) ∧ decodeWhole r.format r.bytes = .error e ∧ s.fetch = .illFramed e)) := by
  cases hr : s.requests with
  | nil => exact .inl ⟨rfl, by simp [State.fetch, hr]⟩
  | cons r rest =>
    refine .inr ⟨r, rest, rfl, ?_⟩
    cases hd : decodeWhole r.format r.bytes with
    | ok i => exact .inl ⟨i, rfl, by simp [State.fetch, hr, hd]⟩
    | error e =>
      cases e with
      | noSuchRow f w => exact .inr (.inl ⟨f, w, rfl, by simp [State.fetch, hr, hd]⟩)
      | truncated => exact .inr (.inr ⟨_, by simp, rfl, by simp [State.fetch, hr, hd]⟩)
      | trailingBytes => exact .inr (.inr ⟨_, by simp, rfl, by simp [State.fetch, hr, hd]⟩)
      | badTag b => exact .inr (.inr ⟨_, by simp, rfl, by simp [State.fetch, hr, hd]⟩)
      | badPosition b => exact .inr (.inr ⟨_, by simp, rfl, by simp [State.fetch, hr, hd]⟩)
      | longBlock => exact .inr (.inr ⟨_, by simp, rfl, by simp [State.fetch, hr, hd]⟩)

/-- A step that answers a next state was idle, refused a request that is none, or ran one decoded instruction. -/
theorem step_next_cases {s t : State} (h : step s = .next t) :
    t = s.idled ∨ (∃ r rest, s.requests = r :: rest ∧ t = (s.taken r rest).refuseBadOp) ∨
      ∃ r rest i, s.requests = r :: rest ∧ decodeWhole r.format r.bytes = .ok i ∧ exec i (s.taken r rest) = .next t := by
  rcases fetch_cases s with ⟨_, hf⟩ | ⟨r, rest, hr, ⟨i, hd, hf⟩ | ⟨f, w, _, hf⟩ | ⟨e, _, _, hf⟩⟩
  · left; simpa [step, hf, eq_comm] using h
  · right; right; exact ⟨r, rest, i, hr, hd, by simpa [step, hf] using h⟩
  · right; left; exact ⟨r, rest, hr, by simpa [step, hf, eq_comm] using h⟩
  · simp [step, hf] at h

/-- Everything the loop of DECODE_SCAN leaves alone. -/
theorem scanLoop_keeps (fs : List Frame) : ∀ (s : State) (reports : List (Nat × Byte)),
    let t := (scanLoop fs s reports).1
    t.fi = s.fi + fs.length ∧ t.seqStep = s.seqStep ∧ t.opWrites = s.opWrites ∧ t.inProgress = s.inProgress ∧
      t.cfg = s.cfg ∧ t.lines = s.lines ∧ t.display = s.display ∧ t.requests = s.requests ∧
      t.answers = s.answers ∧ t.busCount = s.busCount ∧ t.trace = s.trace ∧ t.results = s.results := by
  induction fs with
  | nil => intro s reports; simp [scanLoop]
  | cons f fs ih =>
    intro s reports
    have ih' := ih { (s.loadFrame f).appendResult (s.loadFrame f).decodeLoaded.1 with fi := s.fi + 1 }
      (reports ++ frameReport s.fi (s.loadFrame f).decodeLoaded.2)
    obtain ⟨h1, h2⟩ := ih'
    refine ⟨?_, by simpa [scanLoop] using h2⟩
    exact h1.trans (by simp only [List.length_cons]; omega)

/-- The table lookup finds a row with the keycode. -/
theorem sctEntry_some {sct : List KeycodeEntry} {k : Byte} {e : KeycodeEntry} (h : sctEntry sct k = some e) :
    e ∈ sct ∧ e.keycode = k := by
  induction sct with
  | nil => simp [sctEntry] at h
  | cons e0 sct ih =>
    simp only [sctEntry] at h
    split at h
    · rename_i hk
      cases h
      exact ⟨by simp, hk⟩
    · exact ⟨List.mem_cons_of_mem _ (ih h).1, (ih h).2⟩

/-- No row is found exactly when no row has the keycode. -/
theorem sctEntry_none {sct : List KeycodeEntry} {k : Byte} :
    sctEntry sct k = none ↔ ∀ e ∈ sct, e.keycode ≠ k := by
  induction sct with
  | nil => simp [sctEntry]
  | cons e0 sct ih =>
    simp only [sctEntry]
    split
    · rename_i hk; simp [hk]
    · rename_i hk; simp [hk, ih]

/-- The lookup by recursion is the library's first-match search. -/
theorem sctEntry_eq_find (sct : List KeycodeEntry) (k : Byte) :
    sctEntry sct k = sct.find? (fun e => e.keycode == k) := by
  induction sct with
  | nil => rfl
  | cons e sct ih =>
    by_cases h : e.keycode = k <;> simp [sctEntry, h, ih]

/-- The default table meets the constraints (40_scancode_table.md R93, R95). -/
theorem sctDefault_admissible : Admissible sctDefault where
  keyFour := by decide
  keyFive := by decide
  letters := by
    have h : ∀ j : Fin 26, (sctLetters[j]'j.isLt).plain = BitVec.ofNat 8 (0x61 + j) ∧
        (sctLetters[j]'j.isLt).shifted = BitVec.ofNat 8 (0x41 + j) := by decide
    intro j hj
    exact ⟨sctLetters[j]'hj, List.mem_append_left _ (List.mem_append_left _ (List.mem_append_left _
      (List.getElem_mem (show j < sctLetters.length from hj)))), h ⟨j, hj⟩⟩
  digits := ⟨sctDigits.drop 9 ++ sctDigits.take 9, by decide, by decide, by decide,
    List.perm_append_comm (l₁ := [0x29#8]) (l₂ := digitSymbols.take 9)⟩
  punctuation := by
    have h : ∀ p ∈ punctuationPairs, ∃ e ∈ sctPunctuation, (e.plain, e.shifted) = p := by
      simp [punctuationPairs, sctPunctuation]
    intro p hp
    obtain ⟨e, he, hpe⟩ := h p hp
    exact ⟨e, List.mem_append_right _ he, hpe⟩
  enter := by decide
  controls := by decide
  sharedPair := by decide
  unique := by unfold UniqueKeys; decide

/-- The frame of a KEYCODE row, byte by byte. -/
theorem keyFrame_toBytes (k : Byte) (pos : BitVec 3) (shifted : Bool) :
    (keyFrame k ⟨pos, shifted⟩).toBytes = keyFrameBytes k pos shifted := by
  have h : ∀ p : BitVec 3, (keyFrame k ⟨p, shifted⟩).toBytes = keyFrameBytes k p shifted := by
    intro p
    have : p = 0 ∨ p = 1 ∨ p = 2 ∨ p = 3 ∨ p = 4 ∨ p = 5 ∨ p = 6 ∨ p = 7 := by revert p; decide
    rcases this with rfl | rfl | rfl | rfl | rfl | rfl | rfl | rfl <;> rfl
  exact h pos
end Sys2Proof.Machine
end

