-- ==== Sys2Proof/Laws/PerInstr.lean ====
section
/-! SUPPORT. Family RowWord: an instruction's encoding is of its opcode-table row's format, and its first word has the row's
`match` value under the row's `mask`. The rows are those of spec/opcode_table.json; format OP has 4 bits, alone in its byte. -/

-- One theorem after another: side by side, each takes a thread with a large stack, which passes the check's memory limit.
set_option Elab.async false

namespace Sys2Proof.Laws.RowWord

/-- A row of the opcode table: its format, its `match` and its `mask`. -/
structure Row where
  format : Format
  value  : Byte
  mask   : Byte

/-- The row of an instruction. -/
def tableRow : Instr → Row
  | .lookup _ => ⟨.op, 0x00, 0x0F⟩
  | .decodeFrame _ => ⟨.op, 0x01, 0x0F⟩
  | .decodeScan _ => ⟨.op, 0x02, 0x0F⟩
  | .writeNibble _ _ => ⟨.op, 0x03, 0x0F⟩
  | .writeByte _ _ => ⟨.op, 0x04, 0x0F⟩
  | .init => ⟨.op, 0x05, 0x0F⟩
  | .writeString _ _ => ⟨.op, 0x06, 0x0F⟩
  | .defineGlyph _ _ => ⟨.op, 0x07, 0x0F⟩
  | .showProduct _ _ => ⟨.op, 0x08, 0x0F⟩
  | .showNotFound => ⟨.op, 0x09, 0x0F⟩
  | .opUnassignedA => ⟨.op, 0x0A, 0x0F⟩
  | .opUnassignedB => ⟨.op, 0x0B, 0x0F⟩
  | .opUnassignedC => ⟨.op, 0x0C, 0x0F⟩
  | .opUnassignedD => ⟨.op, 0x0D, 0x0F⟩
  | .opUnassignedE => ⟨.op, 0x0E, 0x0F⟩
  | .opUnassignedF => ⟨.op, 0x0F, 0x0F⟩
  | .key04 _ => ⟨.keycode, 0x04, 0xFF⟩
  | .key05 _ => ⟨.keycode, 0x05, 0xFF⟩
  | .key06 _ => ⟨.keycode, 0x06, 0xFF⟩
  | .key07 _ => ⟨.keycode, 0x07, 0xFF⟩
  | .key08 _ => ⟨.keycode, 0x08, 0xFF⟩
  | .key09 _ => ⟨.keycode, 0x09, 0xFF⟩
  | .key0A _ => ⟨.keycode, 0x0A, 0xFF⟩
  | .key0B _ => ⟨.keycode, 0x0B, 0xFF⟩
  | .key0C _ => ⟨.keycode, 0x0C, 0xFF⟩
  | .key0D _ => ⟨.keycode, 0x0D, 0xFF⟩
  | .key0E _ => ⟨.keycode, 0x0E, 0xFF⟩
  | .key0F _ => ⟨.keycode, 0x0F, 0xFF⟩
  | .key10 _ => ⟨.keycode, 0x10, 0xFF⟩
  | .key11 _ => ⟨.keycode, 0x11, 0xFF⟩
  | .key12 _ => ⟨.keycode, 0x12, 0xFF⟩
  | .key13 _ => ⟨.keycode, 0x13, 0xFF⟩
  | .key14 _ => ⟨.keycode, 0x14, 0xFF⟩
  | .key15 _ => ⟨.keycode, 0x15, 0xFF⟩
  | .key16 _ => ⟨.keycode, 0x16, 0xFF⟩
  | .key17 _ => ⟨.keycode, 0x17, 0xFF⟩
  | .key18 _ => ⟨.keycode, 0x18, 0xFF⟩
  | .key19 _ => ⟨.keycode, 0x19, 0xFF⟩
  | .key1A _ => ⟨.keycode, 0x1A, 0xFF⟩
  | .key1B _ => ⟨.keycode, 0x1B, 0xFF⟩
  | .key1C _ => ⟨.keycode, 0x1C, 0xFF⟩
  | .key1D _ => ⟨.keycode, 0x1D, 0xFF⟩
  | .key1E _ => ⟨.keycode, 0x1E, 0xFF⟩
  | .key1F _ => ⟨.keycode, 0x1F, 0xFF⟩
  | .key20 _ => ⟨.keycode, 0x20, 0xFF⟩
  | .key21 _ => ⟨.keycode, 0x21, 0xFF⟩
  | .key22 _ => ⟨.keycode, 0x22, 0xFF⟩
  | .key23 _ => ⟨.keycode, 0x23, 0xFF⟩
  | .key24 _ => ⟨.keycode, 0x24, 0xFF⟩
  | .key25 _ => ⟨.keycode, 0x25, 0xFF⟩
  | .key26 _ => ⟨.keycode, 0x26, 0xFF⟩
  | .key27 _ => ⟨.keycode, 0x27, 0xFF⟩
  | .key28 _ => ⟨.keycode, 0x28, 0xFF⟩
  | .key29 _ => ⟨.keycode, 0x29, 0xFF⟩
  | .key2A _ => ⟨.keycode, 0x2A, 0xFF⟩
  | .key2B _ => ⟨.keycode, 0x2B, 0xFF⟩
  | .key2C _ => ⟨.keycode, 0x2C, 0xFF⟩
  | .key2D _ => ⟨.keycode, 0x2D, 0xFF⟩
  | .key2E _ => ⟨.keycode, 0x2E, 0xFF⟩
  | .key2F _ => ⟨.keycode, 0x2F, 0xFF⟩
  | .key30 _ => ⟨.keycode, 0x30, 0xFF⟩
  | .key31 _ => ⟨.keycode, 0x31, 0xFF⟩
  | .key32 _ => ⟨.keycode, 0x32, 0xFF⟩
  | .key33 _ => ⟨.keycode, 0x33, 0xFF⟩
  | .key34 _ => ⟨.keycode, 0x34, 0xFF⟩
  | .key35 _ => ⟨.keycode, 0x35, 0xFF⟩
  | .key36 _ => ⟨.keycode, 0x36, 0xFF⟩
  | .key37 _ => ⟨.keycode, 0x37, 0xFF⟩
  | .key38 _ => ⟨.keycode, 0x38, 0xFF⟩
  | .key64 _ => ⟨.keycode, 0x64, 0xFF⟩
  | .keyNoKey _ => ⟨.keycode, 0x00, 0xFF⟩
  | .keyShiftMarker _ => ⟨.keycode, 0x02, 0xFF⟩
  | .keyUnknown _ _ => ⟨.keycode, 0x00, 0x00⟩
  | .init33 => ⟨.cmd, 0x33, 0xFF⟩
  | .init32 => ⟨.cmd, 0x32, 0xFF⟩
  | .init06 => ⟨.cmd, 0x06, 0xFF⟩
  | .init0C => ⟨.cmd, 0x0C, 0xFF⟩
  | .init28 => ⟨.cmd, 0x28, 0xFF⟩
  | .init01 => ⟨.cmd, 0x01, 0xFF⟩
  | .lineAddr0 => ⟨.cmd, 0x80, 0xFF⟩
  | .lineAddr1 => ⟨.cmd, 0xC0, 0xFF⟩
  | .lineAddr2 => ⟨.cmd, 0x94, 0xFF⟩
  | .lineAddr3 => ⟨.cmd, 0xD4, 0xFF⟩
  | .cgramAddr _ => ⟨.cmd, 0x40, 0xC7⟩
  | .char _ => ⟨.chr, 0x00, 0x00⟩
  | .busSetup _ _ _ => ⟨.bus, 0x00, 0x06⟩
  | .busStrobe _ _ _ => ⟨.bus, 0x04, 0x06⟩

/-- The encoding is the row's. -/
def Statement (i : Instr) : Prop :=
  (encode i).1 = (tableRow i).format ∧
    ∃ w rest, (encode i).2 = w :: rest ∧ w &&& (tableRow i).mask = (tableRow i).value

end Sys2Proof.Laws.RowWord

namespace Sys2Proof.Laws

theorem RowWord.lookup (x : Byte) : RowWord.Statement (.lookup x) := ⟨rfl, _, _, rfl, by simp [RowWord.tableRow]⟩
theorem RowWord.decodeFrame (x : List Byte) :
    RowWord.Statement (.decodeFrame x) := ⟨rfl, _, _, rfl, by simp [RowWord.tableRow]⟩
theorem RowWord.decodeScan (x : List Byte) :
    RowWord.Statement (.decodeScan x) := ⟨rfl, _, _, rfl, by simp [RowWord.tableRow]⟩
theorem RowWord.writeNibble (x : Byte) (y : Mode) :
    RowWord.Statement (.writeNibble x y) := ⟨rfl, _, _, rfl, by simp [RowWord.tableRow]⟩
theorem RowWord.writeByte (x : Byte) (y : Mode) :
    RowWord.Statement (.writeByte x y) := ⟨rfl, _, _, rfl, by simp [RowWord.tableRow]⟩
theorem RowWord.init : RowWord.Statement .init := ⟨rfl, _, _, rfl, by decide⟩
theorem RowWord.writeString (x : List Byte) (y : LineSel) :
    RowWord.Statement (.writeString x y) := ⟨rfl, _, _, rfl, by simp [RowWord.tableRow]⟩
theorem RowWord.defineGlyph (x : Byte) (y : List Byte) :
    RowWord.Statement (.defineGlyph x y) := ⟨rfl, _, _, rfl, by simp [RowWord.tableRow]⟩
theorem RowWord.showProduct (x : List Byte) (y : List Byte) :
    RowWord.Statement (.showProduct x y) := ⟨rfl, _, _, rfl, by simp [RowWord.tableRow]⟩
theorem RowWord.showNotFound : RowWord.Statement .showNotFound := ⟨rfl, _, _, rfl, by decide⟩
theorem RowWord.opUnassignedA : RowWord.Statement .opUnassignedA := ⟨rfl, _, _, rfl, by decide⟩
theorem RowWord.opUnassignedB : RowWord.Statement .opUnassignedB := ⟨rfl, _, _, rfl, by decide⟩
theorem RowWord.opUnassignedC : RowWord.Statement .opUnassignedC := ⟨rfl, _, _, rfl, by decide⟩
theorem RowWord.opUnassignedD : RowWord.Statement .opUnassignedD := ⟨rfl, _, _, rfl, by decide⟩
theorem RowWord.opUnassignedE : RowWord.Statement .opUnassignedE := ⟨rfl, _, _, rfl, by decide⟩
theorem RowWord.opUnassignedF : RowWord.Statement .opUnassignedF := ⟨rfl, _, _, rfl, by decide⟩
theorem RowWord.key04 (pos : KeyPlace) :
    RowWord.Statement (.key04 pos) := ⟨rfl, _, _, rfl, by simp [RowWord.tableRow]⟩
theorem RowWord.key05 (pos : KeyPlace) :
    RowWord.Statement (.key05 pos) := ⟨rfl, _, _, rfl, by simp [RowWord.tableRow]⟩
theorem RowWord.key06 (pos : KeyPlace) :
    RowWord.Statement (.key06 pos) := ⟨rfl, _, _, rfl, by simp [RowWord.tableRow]⟩
theorem RowWord.key07 (pos : KeyPlace) :
    RowWord.Statement (.key07 pos) := ⟨rfl, _, _, rfl, by simp [RowWord.tableRow]⟩
theorem RowWord.key08 (pos : KeyPlace) :
    RowWord.Statement (.key08 pos) := ⟨rfl, _, _, rfl, by simp [RowWord.tableRow]⟩
theorem RowWord.key09 (pos : KeyPlace) :
    RowWord.Statement (.key09 pos) := ⟨rfl, _, _, rfl, by simp [RowWord.tableRow]⟩
theorem RowWord.key0A (pos : KeyPlace) :
    RowWord.Statement (.key0A pos) := ⟨rfl, _, _, rfl, by simp [RowWord.tableRow]⟩
theorem RowWord.key0B (pos : KeyPlace) :
    RowWord.Statement (.key0B pos) := ⟨rfl, _, _, rfl, by simp [RowWord.tableRow]⟩
theorem RowWord.key0C (pos : KeyPlace) :
    RowWord.Statement (.key0C pos) := ⟨rfl, _, _, rfl, by simp [RowWord.tableRow]⟩
theorem RowWord.key0D (pos : KeyPlace) :
    RowWord.Statement (.key0D pos) := ⟨rfl, _, _, rfl, by simp [RowWord.tableRow]⟩
theorem RowWord.key0E (pos : KeyPlace) :
    RowWord.Statement (.key0E pos) := ⟨rfl, _, _, rfl, by simp [RowWord.tableRow]⟩
theorem RowWord.key0F (pos : KeyPlace) :
    RowWord.Statement (.key0F pos) := ⟨rfl, _, _, rfl, by simp [RowWord.tableRow]⟩
theorem RowWord.key10 (pos : KeyPlace) :
    RowWord.Statement (.key10 pos) := ⟨rfl, _, _, rfl, by simp [RowWord.tableRow]⟩
theorem RowWord.key11 (pos : KeyPlace) :
    RowWord.Statement (.key11 pos) := ⟨rfl, _, _, rfl, by simp [RowWord.tableRow]⟩
theorem RowWord.key12 (pos : KeyPlace) :
    RowWord.Statement (.key12 pos) := ⟨rfl, _, _, rfl, by simp [RowWord.tableRow]⟩
theorem RowWord.key13 (pos : KeyPlace) :
    RowWord.Statement (.key13 pos) := ⟨rfl, _, _, rfl, by simp [RowWord.tableRow]⟩
theorem RowWord.key14 (pos : KeyPlace) :
    RowWord.Statement (.key14 pos) := ⟨rfl, _, _, rfl, by simp [RowWord.tableRow]⟩
theorem RowWord.key15 (pos : KeyPlace) :
    RowWord.Statement (.key15 pos) := ⟨rfl, _, _, rfl, by simp [RowWord.tableRow]⟩
theorem RowWord.key16 (pos : KeyPlace) :
    RowWord.Statement (.key16 pos) := ⟨rfl, _, _, rfl, by simp [RowWord.tableRow]⟩
theorem RowWord.key17 (pos : KeyPlace) :
    RowWord.Statement (.key17 pos) := ⟨rfl, _, _, rfl, by simp [RowWord.tableRow]⟩
theorem RowWord.key18 (pos : KeyPlace) :
    RowWord.Statement (.key18 pos) := ⟨rfl, _, _, rfl, by simp [RowWord.tableRow]⟩
theorem RowWord.key19 (pos : KeyPlace) :
    RowWord.Statement (.key19 pos) := ⟨rfl, _, _, rfl, by simp [RowWord.tableRow]⟩
theorem RowWord.key1A (pos : KeyPlace) :
    RowWord.Statement (.key1A pos) := ⟨rfl, _, _, rfl, by simp [RowWord.tableRow]⟩
theorem RowWord.key1B (pos : KeyPlace) :
    RowWord.Statement (.key1B pos) := ⟨rfl, _, _, rfl, by simp [RowWord.tableRow]⟩
theorem RowWord.key1C (pos : KeyPlace) :
    RowWord.Statement (.key1C pos) := ⟨rfl, _, _, rfl, by simp [RowWord.tableRow]⟩
theorem RowWord.key1D (pos : KeyPlace) :
    RowWord.Statement (.key1D pos) := ⟨rfl, _, _, rfl, by simp [RowWord.tableRow]⟩
theorem RowWord.key1E (pos : KeyPlace) :
    RowWord.Statement (.key1E pos) := ⟨rfl, _, _, rfl, by simp [RowWord.tableRow]⟩
theorem RowWord.key1F (pos : KeyPlace) :
    RowWord.Statement (.key1F pos) := ⟨rfl, _, _, rfl, by simp [RowWord.tableRow]⟩
theorem RowWord.key20 (pos : KeyPlace) :
    RowWord.Statement (.key20 pos) := ⟨rfl, _, _, rfl, by simp [RowWord.tableRow]⟩
theorem RowWord.key21 (pos : KeyPlace) :
    RowWord.Statement (.key21 pos) := ⟨rfl, _, _, rfl, by simp [RowWord.tableRow]⟩
theorem RowWord.key22 (pos : KeyPlace) :
    RowWord.Statement (.key22 pos) := ⟨rfl, _, _, rfl, by simp [RowWord.tableRow]⟩
theorem RowWord.key23 (pos : KeyPlace) :
    RowWord.Statement (.key23 pos) := ⟨rfl, _, _, rfl, by simp [RowWord.tableRow]⟩
theorem RowWord.key24 (pos : KeyPlace) :
    RowWord.Statement (.key24 pos) := ⟨rfl, _, _, rfl, by simp [RowWord.tableRow]⟩
theorem RowWord.key25 (pos : KeyPlace) :
    RowWord.Statement (.key25 pos) := ⟨rfl, _, _, rfl, by simp [RowWord.tableRow]⟩
theorem RowWord.key26 (pos : KeyPlace) :
    RowWord.Statement (.key26 pos) := ⟨rfl, _, _, rfl, by simp [RowWord.tableRow]⟩
theorem RowWord.key27 (pos : KeyPlace) :
    RowWord.Statement (.key27 pos) := ⟨rfl, _, _, rfl, by simp [RowWord.tableRow]⟩
theorem RowWord.key28 (pos : KeyPlace) :
    RowWord.Statement (.key28 pos) := ⟨rfl, _, _, rfl, by simp [RowWord.tableRow]⟩
theorem RowWord.key29 (pos : KeyPlace) :
    RowWord.Statement (.key29 pos) := ⟨rfl, _, _, rfl, by simp [RowWord.tableRow]⟩
theorem RowWord.key2A (pos : KeyPlace) :
    RowWord.Statement (.key2A pos) := ⟨rfl, _, _, rfl, by simp [RowWord.tableRow]⟩
theorem RowWord.key2B (pos : KeyPlace) :
    RowWord.Statement (.key2B pos) := ⟨rfl, _, _, rfl, by simp [RowWord.tableRow]⟩
theorem RowWord.key2C (pos : KeyPlace) :
    RowWord.Statement (.key2C pos) := ⟨rfl, _, _, rfl, by simp [RowWord.tableRow]⟩
theorem RowWord.key2D (pos : KeyPlace) :
    RowWord.Statement (.key2D pos) := ⟨rfl, _, _, rfl, by simp [RowWord.tableRow]⟩
theorem RowWord.key2E (pos : KeyPlace) :
    RowWord.Statement (.key2E pos) := ⟨rfl, _, _, rfl, by simp [RowWord.tableRow]⟩
theorem RowWord.key2F (pos : KeyPlace) :
    RowWord.Statement (.key2F pos) := ⟨rfl, _, _, rfl, by simp [RowWord.tableRow]⟩
theorem RowWord.key30 (pos : KeyPlace) :
    RowWord.Statement (.key30 pos) := ⟨rfl, _, _, rfl, by simp [RowWord.tableRow]⟩
theorem RowWord.key31 (pos : KeyPlace) :
    RowWord.Statement (.key31 pos) := ⟨rfl, _, _, rfl, by simp [RowWord.tableRow]⟩
theorem RowWord.key32 (pos : KeyPlace) :
    RowWord.Statement (.key32 pos) := ⟨rfl, _, _, rfl, by simp [RowWord.tableRow]⟩
theorem RowWord.key33 (pos : KeyPlace) :
    RowWord.Statement (.key33 pos) := ⟨rfl, _, _, rfl, by simp [RowWord.tableRow]⟩
theorem RowWord.key34 (pos : KeyPlace) :
    RowWord.Statement (.key34 pos) := ⟨rfl, _, _, rfl, by simp [RowWord.tableRow]⟩
theorem RowWord.key35 (pos : KeyPlace) :
    RowWord.Statement (.key35 pos) := ⟨rfl, _, _, rfl, by simp [RowWord.tableRow]⟩
theorem RowWord.key36 (pos : KeyPlace) :
    RowWord.Statement (.key36 pos) := ⟨rfl, _, _, rfl, by simp [RowWord.tableRow]⟩
theorem RowWord.key37 (pos : KeyPlace) :
    RowWord.Statement (.key37 pos) := ⟨rfl, _, _, rfl, by simp [RowWord.tableRow]⟩
theorem RowWord.key38 (pos : KeyPlace) :
    RowWord.Statement (.key38 pos) := ⟨rfl, _, _, rfl, by simp [RowWord.tableRow]⟩
theorem RowWord.key64 (pos : KeyPlace) :
    RowWord.Statement (.key64 pos) := ⟨rfl, _, _, rfl, by simp [RowWord.tableRow]⟩
theorem RowWord.keyNoKey (pos : KeyPlace) :
    RowWord.Statement (.keyNoKey pos) := ⟨rfl, _, _, rfl, by simp [RowWord.tableRow]⟩
theorem RowWord.keyShiftMarker (pos : KeyPlace) :
    RowWord.Statement (.keyShiftMarker pos) := ⟨rfl, _, _, rfl, by simp [RowWord.tableRow]⟩
theorem RowWord.keyUnknown (k : Byte) (pos : KeyPlace) :
    RowWord.Statement (.keyUnknown k pos) := ⟨rfl, _, _, rfl, by simp [RowWord.tableRow]⟩
theorem RowWord.init33 : RowWord.Statement .init33 := ⟨rfl, _, _, rfl, by decide⟩
theorem RowWord.init32 : RowWord.Statement .init32 := ⟨rfl, _, _, rfl, by decide⟩
theorem RowWord.init06 : RowWord.Statement .init06 := ⟨rfl, _, _, rfl, by decide⟩
theorem RowWord.init0C : RowWord.Statement .init0C := ⟨rfl, _, _, rfl, by decide⟩
theorem RowWord.init28 : RowWord.Statement .init28 := ⟨rfl, _, _, rfl, by decide⟩
theorem RowWord.init01 : RowWord.Statement .init01 := ⟨rfl, _, _, rfl, by decide⟩
theorem RowWord.lineAddr0 : RowWord.Statement .lineAddr0 := ⟨rfl, _, _, rfl, by decide⟩
theorem RowWord.lineAddr1 : RowWord.Statement .lineAddr1 := ⟨rfl, _, _, rfl, by decide⟩
theorem RowWord.lineAddr2 : RowWord.Statement .lineAddr2 := ⟨rfl, _, _, rfl, by decide⟩
theorem RowWord.lineAddr3 : RowWord.Statement .lineAddr3 := ⟨rfl, _, _, rfl, by decide⟩
theorem RowWord.cgramAddr (x : BitVec 3) : RowWord.Statement (.cgramAddr x) := ⟨rfl, _, _, rfl, by revert x; decide⟩
theorem RowWord.char (x : Byte) : RowWord.Statement (.char x) := ⟨rfl, _, _, rfl, by simp [RowWord.tableRow]⟩
theorem RowWord.busSetup (x : Nibble) (y : Bool) (z : Mode) :
    RowWord.Statement (.busSetup x y z) := ⟨rfl, _, _, rfl, by cases y <;> cases z <;> revert x <;> decide⟩
theorem RowWord.busStrobe (x : Nibble) (y : Bool) (z : Mode) :
    RowWord.Statement (.busStrobe x y z) := ⟨rfl, _, _, rfl, by cases y <;> cases z <;> revert x <;> decide⟩

end Sys2Proof.Laws
end

