-- ==== Sys2Proof/Laws/Target.lean ====
section
/-! SUPPORT. What a plan of the driver does to the expander's lines and to the controller, and what one controller byte
does to a controller that is between two bytes in 4-bit mode. -/

-- One theorem after another: side by side, each takes a thread with a large stack, which passes the check's memory limit.
set_option Elab.async false

namespace Sys2Proof.Machine

/-- The lines and the controller after some delivered bytes. -/
def deliverAll : List Byte → Option Byte × Option Display → Option Byte × Option Display
  | [], p => p
  | b :: bs, p => deliverAll bs (some b, p.2.map (Display.onWrite p.1 b))

theorem deliverAll_append (xs ys : List Byte) : ∀ p, deliverAll (xs ++ ys) p = deliverAll ys (deliverAll xs p) := by
  induction xs with
  | nil => intro p; rfl
  | cons x xs ih => intro p; exact ih _

/-- Everything running a plan does to the bus target. -/
theorem runActs_target (acts : List Act) : ∀ (s : State) (ans : Nat → Bool),
    (∀ k, ans (s.opWrites + k) = s.answerAt k) →
    let out := issue ans s.opWrites (actEvents s.cfg.busAddr acts)
    ((runActs acts s).lines, (runActs acts s).display) =
      if out.2 = .ok then deliverAll (delivered out.1) (s.lines, s.display) else (none, none) := by
  induction acts with
  | nil => intro s ans _; rfl
  | cons act acts ih =>
    intro s ans h
    cases act with
    | wait k => exact ih (s.delayed k) ans h
    | write b =>
      have h0 : ans s.opWrites = s.answer := by simpa using h 0
      cases ha : s.answer with
      | false => simp [runActs, actEvents, issue, h0, ha]
      | true =>
        have ih' := ih (s.busWritten b) ans (fun j => by
          rw [State.answerAt_busWritten, ← h (j + 1)]
          exact congrArg ans (by simp only [State.busWritten_opWrites]; omega))
        simp only [runActs, actEvents, issue, h0, ha, if_true]
        exact ih'

/-! The bus byte's fields (30_encoding.md R64, R66). -/

theorem busbyte_enable (bl : Bool) (n : Nibble) (m : Mode) (e : Bool) : (busbyte bl n m e).getLsbD 2 = e := by
  cases bl <;> cases m <;> cases e <;> revert n <;> decide

theorem busbyte_bit1 (bl : Bool) (n : Nibble) (m : Mode) (e : Bool) : (busbyte bl n m e).getLsbD 1 = false := by
  cases bl <;> cases m <;> cases e <;> revert n <;> decide

theorem busbyte_backlight (bl : Bool) (n : Nibble) (m : Mode) (e : Bool) : (busbyte bl n m e).getLsbD 3 = bl := by
  cases bl <;> cases m <;> cases e <;> revert n <;> decide

theorem busbyte_mode (bl : Bool) (n : Nibble) (m : Mode) (e : Bool) :
    (busbyte bl n m e).getLsbD 0 = decide (m = .character) := by
  cases bl <;> cases m <;> cases e <;> revert n <;> decide

theorem busbyte_nibble (bl : Bool) (n : Nibble) (m : Mode) (e : Bool) : (busbyte bl n m e).extractLsb' 4 4 = n := by
  cases bl <;> cases m <;> cases e <;> revert n <;> decide

theorem enableHigh_busbyte (bl : Bool) (n : Nibble) (m : Mode) :
    enableHigh (busbyte bl n m false) = busbyte bl n m true := by
  cases bl <;> cases m <;> revert n <;> decide

/-- Clearing the enable bit gives the first byte back (42_display_driver.md R131: "this byte equals b"). -/
theorem enableLow_busbyte (bl : Bool) (n : Nibble) (m : Mode) :
    enableLow (busbyte bl n m false) = busbyte bl n m false := by
  cases bl <;> cases m <;> revert n <;> decide

theorem highNibble_append_lowNibble : ∀ v : Byte, highNibble v ++ lowNibble v = v := by decide +kernel

/-! One nibble and one byte. -/

/-- The three bytes of a nibble, the enable line low before them: one strobe of the nibble. -/
theorem deliverAll_nibble (bl : Bool) (n : Nibble) (m : Mode) (old : Byte) (d : Display) (h : old.getLsbD 2 = false) :
    deliverAll [busbyte bl n m false, enableHigh (busbyte bl n m false), enableLow (busbyte bl n m false)]
        (some old, some d) =
      (some (busbyte bl n m false), some (d.strobe n (decide (m = .character)))) := by
  simp only [enableHigh_busbyte, enableLow_busbyte, deliverAll, Option.map_some, Display.onWrite, busbyte_enable, h,
    busbyte_bit1, busbyte_nibble, busbyte_mode]
  simp

/-- Two strobes between two bytes in 4-bit mode are one controller byte (60_exceptions.md R192 to R194). -/
theorem strobe_strobe (v : Byte) (m : Mode) (d : Display) (h : d.iface = .four) :
    (d.strobe (highNibble v) (decide (m = .character))).strobe (lowNibble v) (decide (m = .character)) =
      match m with
      | .command => d.command v
      | .character => d.data v := by
  obtain ⟨i, c, dd, cg, e1, e2, e3, e4, e5, e6, e7, e8⟩ := d
  subst h
  cases m <;> simp [Display.strobe, Display.lowerHalf, highNibble_append_lowNibble]

/-- A strobe in the 8-bit interface is a whole data byte or a whole command. -/
theorem Display.strobe_eight (n : Nibble) (rs : Bool) {d : Display} (h : d.iface = .eight) :
    d.strobe n rs = if rs then d.dataByte none else d.wholeCommand n := by
  simp [Display.strobe, h]

/-- No whole command touches glyph memory. -/
@[simp] theorem Display.wholeCommand_cgram (n : Nibble) (d : Display) : (d.wholeCommand n).cgram = d.cgram := by
  simp only [Display.wholeCommand]
  split_ifs <;> rfl

/-- No command touches glyph memory (60_exceptions.md R193). -/
@[simp] theorem Display.command_cgram (b : Byte) (d : Display) : (d.command b).cgram = d.cgram := by
  simp only [Display.command]
  split_ifs <;> rfl

/-- A data byte, known or not, leaves the interface and the modes alone. -/
theorem Display.dataByte_keeps (b : Option Byte) (d : Display) :
    (d.dataByte b).iface = d.iface ∧ (d.dataByte b).increment = d.increment ∧ (d.dataByte b).shiftMode = d.shiftMode ∧
      (d.dataByte b).displayOn = d.displayOn ∧ (d.dataByte b).cursorOn = d.cursorOn ∧
      (d.dataByte b).blinkOn = d.blinkOn ∧ (d.dataByte b).twoLines = d.twoLines ∧
      (d.dataByte b).fiveByTen = d.fiveByTen := by
  unfold Display.dataByte
  split <;> exact ⟨rfl, rfl, rfl, rfl, rfl, rfl, rfl, rfl⟩

/-- A data byte leaves the display where it is with entry mode S = 0, and otherwise at an offset that is not known. -/
@[simp] theorem Display.dataByte_offset (b : Option Byte) (d : Display) : (d.dataByte b).offset = d.slide := by
  unfold Display.dataByte
  split <;> rfl

theorem Display.slide_unshifted {d : Display} (h : d.shiftMode = some false) : d.slide = d.offset := if_pos h

theorem Display.slide_shifting {d : Display} (h : d.shiftMode ≠ some false) : d.slide = none := if_neg h

/-- A second half with the RS line of the first is a data byte or a command. -/
theorem Display.lowerHalf_same (hi n : Nibble) (rs : Bool) (d : Display) :
    d.lowerHalf hi rs n rs = if rs then Display.data (hi ++ n) { d with iface := .four }
      else Display.command (hi ++ n) { d with iface := .four } := if_pos rfl

/-- A second half with the other RS line leaves what a command and a data byte leave alike. -/
theorem Display.lowerHalf_other (hi n : Nibble) (rs : Bool) (d : Display) :
    d.lowerHalf hi (!rs) n rs = Display.agree (strobeUnsynced 0 n rs).iface
      (Display.command (hi ++ n) { d with iface := .four }) (Display.data (hi ++ n) { d with iface := .four }) :=
  if_neg (by cases rs <;> decide)

end Sys2Proof.Machine
end

