-- ==== Sys2Proof/Tests/Slice0.lean ====
section
/-! SUPPORT. The model's own tests. Expected results are the spec's: the opcode table's encodings, the tables of
60_exceptions.md and the vectors of 95_test_vectors.md (named S, T and P there). The last part shows for every statement
with hypotheses that something meets them. -/

-- One theorem after another: side by side, each takes a thread with a large stack, which passes the check's memory limit.
set_option Elab.async false

namespace Sys2Proof.Machine.Tests

/-- `SCT_DEFAULT`, BACKLIGHT = 1, the suggested texts "Product" and "not found" (95_test_vectors.md, T9). -/
def cfg : CoreConfig :=
  { busAddr := 0x27, backlight := true, tPulse := 450, tSettle := 600000, nibbleTrailingWrite := false,
    currencyBitmap := Vector.replicate 8 0x1F, sct := sctDefault,
    nfLine1 := [0x50, 0x72, 0x6F, 0x64, 0x75, 0x63, 0x74],
    nfLine2 := [0x6E, 0x6F, 0x74, 0x20, 0x66, 0x6F, 0x75, 0x6E, 0x64] }

/-- An idle core whose next 400 writes succeed. -/
def idle : State := { State.reset with cfg := cfg, answers := List.replicate 400 true }

/-- An idle core whose write of index `i` fails. -/
def failing (i : Nat) : State := { idle with answers := List.replicate i true ++ [false] }

/-- An idle core before a controller that is between two bytes in 4-bit mode. -/
def ready : State :=
  { idle with
    lines := some 0x08
    display := some { Display.unknown .four with counter := some (.ddram (some 0x00)), increment := some true } }

/-- Before a controller of which nothing is known but how its interface stands. -/
def facing (i : Iface) : State := { ready with display := some (Display.unknown i) }

/-- Likewise, with the enable line high. -/
def strobing (i : Iface) : State := { facing i with lines := some 0x3C }

/-- Before a controller whose address counter is this one, with increment. -/
def counting (p : Option Pointer) : State :=
  { ready with display := some { Display.unknown .four with counter := p, increment := some true } }

/-- An operation is in progress. -/
def busy : State := { idle with inProgress := true }

/-- The state after an instruction. -/
def after (i : Instr) (s : State) : State :=
  match exec i s with
  | .next t => t
  | _ => s

/-- The bytes delivered to the bus by an instruction. -/
def sent (i : Instr) (s : State) : List Byte := delivered (newEvents s (after i s))

/-- The state after a step. -/
def stepped (s : State) : State :=
  match step s with
  | .next t => t
  | _ => s

/-! Well-formedness: one ill-formed term for each check. -/

theorem test_wf_seven_byte_scan : Instr.wf (.decodeScan [0, 0, 30, 0, 0, 0, 0]) = false := by decide
theorem test_wf_seven_byte_frame : Instr.wf (.decodeFrame [0, 0, 30, 0, 0, 0, 0]) = false := by decide
theorem test_wf_line_four : Instr.wf (.writeString [0x78] (.index 4)) = false := by decide
theorem test_wf_line_address_81 : Instr.wf (.writeString [0x78] (.address 0x81)) = false := by decide
theorem test_wf_slot_eight : Instr.wf (.defineGlyph 8 [1, 2, 3, 4, 5, 6, 7, 8]) = false := by decide
theorem test_wf_nine_byte_bitmap : Instr.wf (.defineGlyph 0 [1, 2, 3, 4, 5, 6, 7, 8, 9]) = false := by decide
theorem test_wf_nibble_sixteen : Instr.wf (.writeNibble 16 .command) = false := by decide
theorem test_wf_unassigned_code : Instr.wf Instr.opUnassignedC = false := by decide
theorem test_wf_known_key_as_unknown : Instr.wf (.keyUnknown 0x04 ⟨0, false⟩) = false := by decide
theorem test_wf_accepts : Instr.wf (.defineGlyph 7 [1, 2, 3, 4, 5, 6, 7, 8]) = true := by decide

/-! Decoding: a word of every row, its bits as the opcode table's column `encoding` has them, operands after it (Log 1). -/

theorem test_decode_op : ∀ p ∈ ([
    ([0b0000, 0x05], .lookup 0x05),
    ([0b0001, 0, 2, 0, 5, 0, 0, 0, 0, 0], .decodeFrame [2, 0, 5, 0, 0, 0, 0, 0]),
    ([0b0010, 1, 0x04, 1, 0x28, 0], .decodeScan [0x04, 0x28]),
    ([0b0011, 0x03, 0], .writeNibble 3 .command),
    ([0b0100, 0x48, 1], .writeByte 0x48 .character),
    ([0b0101], .init),
    ([0b0110, 0, 1, 1, 0x48, 1, 0x69, 0], .writeString [0x48, 0x69] (.index 1)),
    ([0b0111, 7, 1, 1, 0xFF, 0], .defineGlyph 7 [0xFF]),
    ([0b1000, 1, 0x41, 0, 1, 0x31, 0], .showProduct [0x41] [0x31]),
    ([0b1001], .showNotFound),
    ([0b1010], .opUnassignedA),
    ([0b1011], .opUnassignedB),
    ([0b1100], .opUnassignedC),
    ([0b1101], .opUnassignedD),
    ([0b1110], .opUnassignedE),
    ([0b1111], .opUnassignedF)] : List (List Byte × Instr)),
    decodeWhole .op p.1 = .ok p.2 := by decide

theorem test_decode_letters : ∀ p ∈ ([
    ([0b00000100, 0x0A], .key04 ⟨2, true⟩), ([0b00000101, 0x0A], .key05 ⟨2, true⟩),
    ([0b00000110, 0x0A], .key06 ⟨2, true⟩), ([0b00000111, 0x0A], .key07 ⟨2, true⟩),
    ([0b00001000, 0x0A], .key08 ⟨2, true⟩), ([0b00001001, 0x0A], .key09 ⟨2, true⟩),
    ([0b00001010, 0x0A], .key0A ⟨2, true⟩), ([0b00001011, 0x0A], .key0B ⟨2, true⟩),
    ([0b00001100, 0x0A], .key0C ⟨2, true⟩), ([0b00001101, 0x0A], .key0D ⟨2, true⟩),
    ([0b00001110, 0x0A], .key0E ⟨2, true⟩), ([0b00001111, 0x0A], .key0F ⟨2, true⟩),
    ([0b00010000, 0x0A], .key10 ⟨2, true⟩), ([0b00010001, 0x0A], .key11 ⟨2, true⟩),
    ([0b00010010, 0x0A], .key12 ⟨2, true⟩), ([0b00010011, 0x0A], .key13 ⟨2, true⟩),
    ([0b00010100, 0x0A], .key14 ⟨2, true⟩), ([0b00010101, 0x0A], .key15 ⟨2, true⟩),
    ([0b00010110, 0x0A], .key16 ⟨2, true⟩), ([0b00010111, 0x0A], .key17 ⟨2, true⟩),
    ([0b00011000, 0x0A], .key18 ⟨2, true⟩), ([0b00011001, 0x0A], .key19 ⟨2, true⟩),
    ([0b00011010, 0x0A], .key1A ⟨2, true⟩), ([0b00011011, 0x0A], .key1B ⟨2, true⟩),
    ([0b00011100, 0x0A], .key1C ⟨2, true⟩), ([0b00011101, 0x0A], .key1D ⟨2, true⟩)] : List (List Byte × Instr)),
    decodeWhole .keycode p.1 = .ok p.2 := by decide

theorem test_decode_other_keys : ∀ p ∈ ([
    ([0b00011110, 0x0A], .key1E ⟨2, true⟩), ([0b00011111, 0x0A], .key1F ⟨2, true⟩),
    ([0b00100000, 0x0A], .key20 ⟨2, true⟩), ([0b00100001, 0x0A], .key21 ⟨2, true⟩),
    ([0b00100010, 0x0A], .key22 ⟨2, true⟩), ([0b00100011, 0x0A], .key23 ⟨2, true⟩),
    ([0b00100100, 0x0A], .key24 ⟨2, true⟩), ([0b00100101, 0x0A], .key25 ⟨2, true⟩),
    ([0b00100110, 0x0A], .key26 ⟨2, true⟩), ([0b00100111, 0x0A], .key27 ⟨2, true⟩),
    ([0b00101000, 0x0A], .key28 ⟨2, true⟩), ([0b00101001, 0x0A], .key29 ⟨2, true⟩),
    ([0b00101010, 0x0A], .key2A ⟨2, true⟩), ([0b00101011, 0x0A], .key2B ⟨2, true⟩),
    ([0b00101100, 0x0A], .key2C ⟨2, true⟩), ([0b00101101, 0x0A], .key2D ⟨2, true⟩),
    ([0b00101110, 0x0A], .key2E ⟨2, true⟩), ([0b00101111, 0x0A], .key2F ⟨2, true⟩),
    ([0b00110000, 0x0A], .key30 ⟨2, true⟩), ([0b00110001, 0x0A], .key31 ⟨2, true⟩),
    ([0b00110010, 0x0A], .key32 ⟨2, true⟩), ([0b00110011, 0x0A], .key33 ⟨2, true⟩),
    ([0b00110100, 0x0A], .key34 ⟨2, true⟩), ([0b00110101, 0x0A], .key35 ⟨2, true⟩),
    ([0b00110110, 0x0A], .key36 ⟨2, true⟩), ([0b00110111, 0x0A], .key37 ⟨2, true⟩),
    ([0b00111000, 0x0A], .key38 ⟨2, true⟩), ([0b01100100, 0x0A], .key64 ⟨2, true⟩),
    ([0b00000000, 0x0A], .keyNoKey ⟨2, true⟩), ([0b00000010, 0x0A], .keyShiftMarker ⟨2, true⟩)] : List (List Byte × Instr)),
    decodeWhole .keycode p.1 = .ok p.2 := by decide

theorem test_decode_unknown_key : decodeWhole .keycode [0b00111001, 7] = .ok (.keyUnknown 0x39 ⟨7, false⟩) ∧
    decodeWhole .keycode [0b11111111, 8] = .ok (.keyUnknown 0xFF ⟨0, true⟩) := by decide

theorem test_decode_cmd : ∀ p ∈ ([
    ([0b00110011], .init33), ([0b00110010], .init32), ([0b00000110], .init06),
    ([0b00001100], .init0C), ([0b00101000], .init28), ([0b00000001], .init01),
    ([0b10000000], .lineAddr0), ([0b11000000], .lineAddr1), ([0b10010100], .lineAddr2),
    ([0b11010100], .lineAddr3),
    ([0b01000000], .cgramAddr 0), ([0b01101000], .cgramAddr 5), ([0b01111000], .cgramAddr 7)] : List (List Byte × Instr)),
    decodeWhole .cmd p.1 = .ok p.2 := by decide

/-- CHAR is `cccccccc`; BUS_SETUP is `nnnnb00m` and BUS_STROBE `nnnnb10m`: the words of WRITE_NIBBLE(0x3, Command) and of
nibble 0xF in Character mode without the backlight (T4). -/
theorem test_decode_chr_bus : ∀ p ∈ ([
    (.chr, [0b01001000], .char 0x48), (.bus, [0b00111000], .busSetup 0x3 true .command),
    (.bus, [0b00111100], .busStrobe 0x3 true .command), (.bus, [0b11110001], .busSetup 0xF false .character),
    (.bus, [0b11110101], .busStrobe 0xF false .character)] : List (Format × List Byte × Instr)),
    decodeWhole p.1 p.2.1 = .ok p.2.2 := by decide

/-- Words without a row (30 R68 to R70, R65, R81) and bytes that break the layout (Log 1) are refused by name. -/
theorem test_decode_refuses :
    decodeWhole .cmd [0x81] = .error (.noSuchRow .cmd 0x81) ∧ decodeWhole .cmd [0x41] = .error (.noSuchRow .cmd 0x41) ∧
    decodeWhole .bus [0b00111010] = .error (.noSuchRow .bus 0x3A) ∧ decodeWhole .op [0x10] = .error (.noSuchRow .op 0x10) ∧
    decodeWhole .op [0x05, 0x00] = .error .trailingBytes ∧ decodeWhole .op [0x00] = .error .truncated ∧
    decodeWhole .op [0x04, 0x28, 0x02] = .error (.badTag 0x02) ∧
    decodeWhole .op [0x01, 1, 1, 2, 1, 0, 1, 5, 1, 0, 1, 0, 1, 0, 1, 0, 1, 0, 0] = .error .longBlock ∧
    decodeWhole .keycode [0x04, 0x10] = .error (.badPosition 0x10) := by decide

/-- The host's two functions: INIT's code runs as the first instruction after reset. -/
theorem test_table_word : decodeTableWord 4 0x5 = some .init ∧ decodeTableWord 8 0x94 = some .lineAddr2 ∧
    (State.reset.withFetchWord 4 0xA).requests = [⟨.op, [0x0A], false⟩] := by decide

theorem test_step_unassigned : (stepped (State.reset.withFetchWord 4 0xA)).results = [.refused .badOp] := by decide

/-- A command byte that is none of the core's is refused with BadOp, like an unassigned code (60 R174). -/
theorem test_step_without_row : (stepped { idle with requests := [⟨.cmd, [0x81], false⟩] }).results = [.refused .badOp] ∧
    (stepped { idle with requests := [⟨.cmd, [0x81], false⟩] }).trace = [] := by decide

/-! The decoder. -/

/-- LOOKUP(5) of 40 R90's example; no row at 0x39 (T1). -/
theorem test_lookup : returned (.lookup 0x05) idle = some (.lookup (some (0x62, 0x42))) ∧
    returned (.lookup 0x39) idle = some (.lookup none) := by decide

/-- S1, S2, S3 and the rows of T2 for a failed lookup and a modifier 3. -/
theorem test_decode_frame : ∀ p ∈ ([
    ([4, 0, 0, 0, 0, 0, 0, 0], .frame (.char 0x61) none), ([2, 0, 5, 0, 0, 0, 0, 0], .frame (.char 0x42) none),
    ([0, 0, 0, 0, 0, 0, 0, 0], .frame .empty none), ([2, 0, 0, 0, 0, 0, 0, 57], .frame .empty (some 57)),
    ([3, 0, 4, 0, 0, 0, 0, 0], .frame .empty (some 3)), ([0, 0, 30, 31, 32, 33, 34, 35], .frame (.char 0x31) none)] :
      List (List Byte × Result)),
    returned (.decodeFrame p.1) idle = some p.2 := by decide

/-- SHIFT is the equality of the whole byte (41 R111): 0x22 does not shift, and is itself looked up (0x22 is the key 5). -/
theorem test_shift_whole_byte : (after (.decodeFrame [0x22, 0, 5, 0, 0, 0, 0, 0]) idle).shift = false ∧
    (after (.decodeFrame [2, 0, 5, 0, 0, 0, 0, 0]) idle).shift = true := by decide

/-- S4: `12345`. -/
theorem test_decode_scan : returned (.decodeScan
      ([0, 0, 30, 0, 0, 0, 0, 0] ++ [0, 0, 31, 0, 0, 0, 0, 0] ++ [0, 0, 32, 0, 0, 0, 0, 0] ++
        [0, 0, 33, 0, 0, 0, 0, 0] ++ [0, 0, 34, 0, 0, 0, 0, 0] ++ [0, 0, 40, 0, 0, 0, 0, 0])) idle =
    some (.scan (.str [0x31, 0x32, 0x33, 0x34, 0x35]) []) := by decide

/-- The rows of T3 that end in NoResult, and `1`, Enter, unknown 57, whose report comes after the sentinel. -/
theorem test_decode_scan_corners :
    returned (.decodeScan []) idle = some (.scan .noResult []) ∧
    returned (.decodeScan [0, 0, 40, 0, 0, 0, 0, 0, 0, 0, 30, 0, 0, 0, 0, 0]) idle = some (.scan .noResult []) ∧
    returned (.decodeScan ([0, 0, 30, 0, 0, 0, 0, 0] ++ [0, 0, 40, 0, 0, 0, 0, 0] ++ [0, 0, 57, 0, 0, 0, 0, 0])) idle =
      some (.scan (.str [0x31]) [(2, 57)]) := by decide

/-- KEY_1E at byte 2 of a frame with and without the marker (`1` and `!`), and at byte 0, where 0x1E is not the marker
(40 R95, 41 R111, R113); the SHIFT that an earlier operation left is not read (10 R32). -/
theorem test_keycode_row : returned (.key1E ⟨2, true⟩) idle = some (.frame (.char 0x21) none) ∧
    returned (.key1E ⟨2, false⟩) { idle with shift := true } = some (.frame (.char 0x31) none) ∧
    returned (.key1E ⟨0, true⟩) { idle with shift := true } = some (.frame (.char 0x31) none) := by decide

/-- 0x02 in byte 0 sets SHIFT and is dropped, in byte 3 it is only dropped (41 R111, R112); 0x39 has no row (41 R114). -/
theorem test_marker_and_unknown : (after (.keyShiftMarker ⟨0, false⟩) idle).shift = true ∧
    (after (.keyShiftMarker ⟨3, false⟩) idle).shift = false ∧
    returned (.keyNoKey ⟨3, true⟩) idle = some (.frame .empty none) ∧
    returned (.keyUnknown 0x39 ⟨2, false⟩) idle = some (.frame .empty (some 0x39)) := by decide

/-- The table in which keycode 0x2D carries `-` and `_`. -/
def minusTable : List KeycodeEntry :=
  sctDefault.map (fun e => if e.keycode = 0x2D then ⟨0x2D, 0x2D, 0x5F⟩ else e)

/-- R97: R93 allows that one row. -/
theorem test_minus_admissible : Admissible minusTable where
  keyFour := by decide
  keyFive := by decide
  letters := by decide +kernel
  digits := ⟨sctDigits.drop 9 ++ sctDigits.take 9, by decide, by decide, by decide,
    List.perm_append_comm (l₁ := [0x29#8]) (l₂ := digitSymbols.take 9)⟩
  punctuation := by
    have h : ∀ p ∈ punctuationPairs, ∃ e ∈ sctPunctuation, e.keycode ≠ 0x2D ∧ (e.plain, e.shifted) = p := by
      simp [punctuationPairs, sctPunctuation]
    intro p hp
    obtain ⟨e, he, hk, hpe⟩ := h p hp
    exact ⟨e, List.mem_map.2 ⟨e, List.mem_append_right _ he, if_neg hk⟩, hpe⟩
  enter := by decide
  controls := by decide
  sharedPair := by decide
  unique := by unfold UniqueKeys; decide

/-! The driver. -/

/-- T4: WRITE_NIBBLE(0x3, Command). -/
theorem test_write_nibble : newEvents idle (after (.writeNibble 0x3 .command) idle) =
    [.w 0x27 0x38, .d .settle, .w 0x27 0x3C, .d .pulse, .w 0x27 0x38, .d .settle] := by decide

/-- P6: WRITE_BYTE(0x0C, Command) under the trailing write with the backlight off. -/
theorem test_write_byte_trailing : sent (.writeByte 0x0C .command)
      { idle with cfg := { cfg with backlight := false, nibbleTrailingWrite := true } } =
    [0x00, 0x04, 0x00, 0x00, 0xC0, 0xC4, 0xC0, 0xC0] := by decide

/-- T5: WRITE_BYTE(0xA5, Character). -/
theorem test_write_byte : sent (.writeByte 0xA5 .character) idle = [0xA9, 0xAD, 0xA9, 0x59, 0x5D, 0x59] := by decide

/-- S7: INIT. -/
theorem test_init : sent .init idle =
    [0x38, 0x3C, 0x38, 0x38, 0x3C, 0x38] ++ [0x38, 0x3C, 0x38, 0x28, 0x2C, 0x28] ++
    [0x08, 0x0C, 0x08, 0x68, 0x6C, 0x68] ++ [0x08, 0x0C, 0x08, 0xC8, 0xCC, 0xC8] ++
    [0x28, 0x2C, 0x28, 0x88, 0x8C, 0x88] ++ [0x08, 0x0C, 0x08, 0x18, 0x1C, 0x18] := by decide +kernel

/-- T6: the address byte and the first two characters of `Hi` on line 0. -/
theorem test_write_string : (sent (.writeString [0x48, 0x69] (.index 0)) idle).take 24 =
    [0x88, 0x8C, 0x88, 0x08, 0x0C, 0x08] ++ [0x49, 0x4D, 0x49, 0x89, 0x8D, 0x89] ++
    [0x69, 0x6D, 0x69, 0x99, 0x9D, 0x99] ++ [0x29, 0x2D, 0x29, 0x09, 0x0D, 0x09] := by decide +kernel

/-- T6, row 4: 20 characters on line 2 are cut to 16. -/
theorem test_line16 : line16 ([0x30, 0x31, 0x32, 0x33, 0x34, 0x35, 0x36, 0x37, 0x38, 0x39] ++
      [0x41, 0x42, 0x43, 0x44, 0x45, 0x46, 0x47, 0x48, 0x49, 0x4A]) =
    [0x30, 0x31, 0x32, 0x33, 0x34, 0x35, 0x36, 0x37, 0x38, 0x39, 0x41, 0x42, 0x43, 0x44, 0x45, 0x46] := by decide

/-- T7: slot 7 and a row whose upper bits are sent unmasked. -/
theorem test_define_glyph : (sent (.defineGlyph 7 [0xFF, 0x00, 0x1F, 0x11, 0x11, 0x11, 0x1F, 0xE0]) idle).take 12 =
    [0x78, 0x7C, 0x78, 0x88, 0x8C, 0x88] ++ [0xF9, 0xFD, 0xF9, 0xF9, 0xFD, 0xF9] := by decide +kernel

/-- P2: the glyph and the first price character of SHOW_PRODUCT("Cola", "1.50") come after the second line's address. -/
theorem test_show_product :
    ((sent (.showProduct [0x43, 0x6F, 0x6C, 0x61] [0x31, 0x2E, 0x35, 0x30]) idle).drop 102).take 18 =
    [0xC8, 0xCC, 0xC8, 0x08, 0x0C, 0x08] ++ [0x09, 0x0D, 0x09, 0x09, 0x0D, 0x09] ++
    [0x39, 0x3D, 0x39, 0x19, 0x1D, 0x19] := by decide +kernel

/-- T9: `n` (0x6E) is the first character of the second line. -/
theorem test_show_not_found : ((sent .showNotFound idle).drop 108).take 6 = [0x69, 0x6D, 0x69, 0xE9, 0xED, 0xE9] := by
  decide +kernel

/-- T5: the rows 0x94, 0x78 and 0x20. -/
theorem test_controller_rows : sent .lineAddr2 idle = [0x98, 0x9C, 0x98, 0x48, 0x4C, 0x48] ∧
    sent (.cgramAddr 7) idle = [0x78, 0x7C, 0x78, 0x88, 0x8C, 0x88] ∧
    sent (.char 0x20) idle = [0x29, 0x2D, 0x29, 0x09, 0x0D, 0x09] := by decide

/-- S7 row by row. -/
theorem test_init_rows : sent .init32 idle = [0x38, 0x3C, 0x38, 0x28, 0x2C, 0x28] ∧
    sent .init06 idle = [0x08, 0x0C, 0x08, 0x68, 0x6C, 0x68] := by decide

/-- T4: the two words of WRITE_NIBBLE(0x3, Command); bit 3 is BACKLIGHT whatever the row's is (42 R141). -/
theorem test_bus_rows : sent (.busSetup 0x3 true .command) idle = [0x38, 0x3C, 0x38] ∧
    sent (.busStrobe 0xF false .character) idle = [0xF9, 0xFD, 0xF9] := by decide

/-! Outcomes. -/

/-- T10: WRITE_NIBBLE(0x3, Command), the write of index 2 failing; the expander is then any value (93 U5). -/
theorem test_bus_failure :
    let t := after (.writeNibble 0x3 .command) (failing 2)
    t.trace = [.w 0x27 0x38, .d .settle, .w 0x27 0x3C, .d .pulse, .f 0x27 0x38] ∧ t.results = [.busFailure 0x38 2] ∧
      t.lines = none := by decide

/-- T10: WRITE_STRING("Hi", 0) failing at write 10. -/
theorem test_bus_failure_in_string :
    let t := after (.writeString [0x48, 0x69] (.index 0)) (failing 10)
    t.trace.length = 21 ∧ t.results = [.busFailure 0x8D 10] := by decide

/-- T11, and the order of reasons: slot 9 with three bytes is BadSlot (T7). -/
theorem test_refusals : ∀ p ∈ ([
    (.decodeScan [0, 0, 0, 0, 0, 0, 0, 0, 0], .badLength), (.decodeFrame [0, 0, 0, 0, 0, 0, 0], .badFrame),
    (.writeString [0x61] (.index 7), .badLine), (.defineGlyph 9 [1, 2, 3], .badSlot),
    (.defineGlyph 0 [1, 2, 3, 4, 5, 6, 7, 8, 9], .badBitmap), (.writeNibble 16 .command, .badNibble),
    (.opUnassignedC, .badOp)] : List (Instr × Reason)),
    (after p.1 busy).results = [.refused p.2] ∧ (after p.1 busy).trace = [] := by decide

/-- T11: any request during an operation. -/
theorem test_busy : (after .init busy).results = [.refused .busy] ∧ (after .init busy).trace = [] := by decide

/-- The codes of reasons and outcomes (D18). -/
theorem test_codes : reasonCode .badLength = 1 ∧ reasonCode .busy = 8 ∧ outcomeCodes (.busFailure 0 0) = [3] ∧
    outcomeCodes (.scan .noResult [(0, 57)]) = [1, 2] := by decide

/-! The bus target, by the receiver reference (60_exceptions.md section 14). -/

/-- P1, request 1: after INIT display memory is all spaces at address 0; the reference's mode bits are set. -/
theorem test_target_init : (after .init idle).display.map (fun d => (d.iface, d.counter, d.ddram.read 0x67, d.displayOn)) =
    some (.four, some (.ddram (some 0x00)), some 0x20, some true) := by decide

/-- P1, request 2: the write pointer is at glyph address 8 after slot 0. -/
theorem test_target_glyph :
    (after (.defineGlyph 0 [0x07, 0x08, 0x1E, 0x08, 0x1E, 0x08, 0x07, 0x00]) ready).display.map
      (fun d => (d.counter, d.cgram.read 2, d.cgram.read 7)) = some (some (.cgram (some 8)), some 0x1E, some 0x00) := by decide

/-- R194: the position is one further after the write, also at the last cell of a controller line. -/
theorem test_target_increment :
    (after (.char 0x41) (counting (some (.ddram (some 0x27))))).display.map
      (fun d => (d.counter, d.ddram.read 0x27)) = some (some (.ddram (some 0x28)), some 0x41) := by decide

/-- R213: a lone nibble splits the next byte, a second one restores the pairing (the modes may differ, R212). -/
theorem test_target_pairing :
    (after (.writeByte 0xA5 .character) (after (.writeNibble 0x8 .character) ready)).display.map (fun d => d.iface) =
      some (.fourHalf 0x5 true) ∧
    (after (.writeNibble 0x8 .character) (after (.writeNibble 0x8 .command) ready)).display.map (fun d => d.iface) =
      some .four := by decide

/-- R192: in the 8-bit interface nibble 8 chooses display memory, and a data strobe spoils only the cell it writes. -/
theorem test_target_eight_bit :
    (after (.writeNibble 8 .command) (facing .eight)).display = some { Display.unknown .eight with
      counter := some (.ddram none) } ∧
    (after (.writeNibble 4 .character) { ready with display := some { Display.unknown .eight with
      counter := some (.cgram (some 1)), increment := some true, cgram := [(0, 7), (1, 8), (2, 9)] } }).display.map
      (fun d => (d.counter, d.cgram)) = some (some (.cgram (some 2)), [(0, 7), (2, 9)]) := by decide

/-- R195: row 2 of slot 0 is 0x1E, four dots from the left; code 8 shows slot 0 again, with whatever is in it now. -/
theorem test_picture :
    (after (.defineGlyph 0 [0x07, 0x08, 0x1E, 0x08, 0x1E, 0x08, 0x07, 0xE0]) ready).display.map
      (fun d => (d.glyphRow 0 2, d.glyphRow 0 7)) =
        some (some #v[true, true, true, true, false], some #v[false, false, false, false, false]) ∧
    Display.shows (Display.unknown .four) 8 = Display.shows (Display.unknown .four) 0 ∧
    Display.shows (Display.unknown .four) 0x43 = .rom 0x43 := by decide

/-- R193: with S = 1 the display shifts by an amount that is not given; clear display, INIT's last command, ends it (70 R205);
with D = 0 nothing is shown. -/
theorem test_display_shift :
    let shifting : State := { ready with display := some { Display.unknown .four with shiftMode := some true, offset := some 0 } }
    (after (.char 0x41) shifting).display.map (fun d => d.offset) = some none ∧
    (after .init01 (after (.char 0x41) shifting)).display.map (fun d => d.offset) = some (some 0) ∧
    (after (.writeByte 0x18 .command) (after .init01 ready)).display.map (fun d => d.offset) = some none ∧
    (after (.writeByte 0x08 .command) ready).display.map (fun d => d.picture .twoBySixteen) = some .off := by decide

/-- R193 says of N = 1, F = 0 (0x28) only that INIT sets it; what a panel shows with another N is not given (Log 31). -/
theorem test_one_line : (after (.writeByte 0x20 .command) (after .init28 ready)).display.map (fun d =>
    { d with displayOn := some true, offset := some 0 }.picture .twoBySixteen) = some .notKnown := by decide

/-- R191: nothing is given of an edge with R/W = 1 (bit 1). -/
theorem test_read_strobe : Display.onWrite (some 0x3E) 0x3A (Display.unknown .four) = Display.unknown (.unsynced 0) := by
  decide

/-- R193: the line addresses 0x94 and 0xD4 are the third and fourth row of a 20×4 panel, and off a 16×2 panel's rows. -/
theorem test_panels : (Panel.rows .fourByTwenty).map (fun row => row.head?) = [some 0x00, some 0x40, some 0x14, some 0x54] ∧
    ∀ row ∈ Panel.rows .twoBySixteen, 0x14 ∉ row ∧ 0x54 ∉ row := by decide

/-- R203: a restart of the core leaves the target as it is. -/
theorem test_restart : ((after (.char 0x41) ready).restart cfg).lines = some 0x19 ∧
    ((after (.char 0x41) ready).restart cfg).display.map (fun d => d.ddram.read 0x00) = some (some 0x41) ∧
    ((after (.char 0x41) ready).restart cfg).results = [] := by decide

/-! What meets the hypotheses. -/

theorem succeeds {n : Nat} (h : n ≤ 400) : idle.nextSucceed n := by
  intro j hj
  have hj' : j < 400 := by omega
  show (List.replicate 400 true).getD j _ = true
  rw [List.getD_eq_getElem?_getD, List.getElem?_replicate, if_pos hj']
  rfl

theorem ready_succeeds {n : Nat} (h : n ≤ 400) : ready.nextSucceed n := succeeds h

theorem ready_displayReady : ready.displayReady (ready.display.getD (Display.unknown .four)) :=
  ⟨rfl, rfl, 0x08, rfl, rfl⟩

theorem sctDefault_unique : UniqueKeys sctDefault := sctDefault_admissible.unique

/-- An idle core with one request, WRITE_NIBBLE(0x3, Command). -/
def asked : State := { ready with requests := [⟨.op, [0x03, 0x03, 0x00], false⟩] }

theorem asked_inv : asked.Inv :=
  ⟨rfl, Nat.le_refl 0, fun _ _ h => h.elim (absurd · List.not_mem_nil) (absurd · List.not_mem_nil),
    fun _ h => absurd h List.not_mem_nil, by
      intro d hd
      cases hd
      exact ⟨rfl, rfl, by simp [Display.unknown]⟩⟩

theorem test_witness_EveryStepKeepsTheInvariant :
    ∃ s t : State, s.Inv ∧ step s = .next t ∧ t.results = [.ok] :=
  ⟨asked, stepped asked, asked_inv, rfl, by decide⟩

theorem test_witness_NoStepChangesTheConfiguration :
    ∃ s t : State, step s = .next t ∧ t.results = [.ok] :=
  ⟨asked, stepped asked, rfl, by decide⟩

theorem test_witness_DecodeOfEncodeIsTheInstruction :
    ∃ i : Instr, i.canonical = true ∧ i = .keyUnknown 0x39 ⟨7, true⟩ :=
  ⟨_, by decide, rfl⟩

theorem test_witness_DecodedInstructionsAreCanonical :
    ∃ fmt bytes rest i, decode fmt bytes = .ok (i, rest) ∧ rest ≠ [] :=
  ⟨.op, [0x05, 0x00], [0x00], .init, by decide, by decide⟩

theorem test_witness_RestartKeepsTheTarget :
    ∃ s : State, s.Inv ∧ s.display ≠ none :=
  ⟨asked, asked_inv, by decide⟩

theorem test_witness_WordsWithoutARowAreRefused :
    ((0x81#8 ∉ commandWords) ∧ (0x41#8 ∉ commandWords)) ∧ (0x3A#8).getLsbD 1 = true ∧ 16 ≤ (0x10#8).toNat :=
  by decide

theorem test_witness_StepRunsTheDecodedInstruction :
    ∃ (s : State) (r : Request) (rest : List Request) (i : Instr),
    s.requests = r :: rest ∧ decodeWhole r.format r.bytes = .ok i :=
  ⟨asked, _, [], .writeNibble 0x3 .command, rfl, by decide⟩

theorem test_witness_StepIdlesOrStopsByName_idle :
    ∃ s : State, s.requests = [] :=
  ⟨idle, rfl⟩

theorem test_witness_StepIdlesOrStopsByName_refused :
    ∃ (s : State) (r : Request) (rest : List Request) (f : Format) (w : Byte),
    s.requests = r :: rest ∧ decodeWhole r.format r.bytes = .error (.noSuchRow f w) :=
  ⟨{ idle with requests := [⟨.cmd, [0x81], false⟩] }, _, [], .cmd, 0x81, rfl, by decide⟩

theorem test_witness_StepIdlesOrStopsByName_fault :
    ∃ (s : State) (r : Request) (rest : List Request) (e : DecodeError), s.requests = r :: rest ∧
    (∀ f w, e ≠ .noSuchRow f w) ∧ decodeWhole r.format r.bytes = .error e :=
  ⟨{ idle with requests := [⟨.op, [], false⟩] }, _, [], .truncated, rfl, by simp, by decide⟩

theorem test_witness_BrokenPreconditionsAreRefused :
    ([0x00#8].length % 8 ≠ 0) ∧ ((List.replicate 9 0x00#8).length ≠ 8) ∧ (4 ≤ (4#8).toNat) ∧
    (0x81#8 ∉ lineAddresses) ∧ (8 ≤ (8#8).toNat) ∧ ((7#8).toNat < 8 ∧ (List.replicate 7 0x00#8).length ≠ 8) ∧
    (16 ≤ (16#8).toNat) :=
  by decide

theorem test_witness_RequestsDuringAnOperationAreBusy :
    ∃ (i : Instr) (s : State), i.wf = true ∧ s.inProgress = true :=
  ⟨.writeNibble 15 .command, busy, by decide, rfl⟩

theorem test_witness_LookupReturnsTheEntry_found :
    ∃ (k : Byte) (s : State), s.inProgress = false ∧ UniqueKeys s.cfg.sct ∧
    ∃ e ∈ s.cfg.sct, e.keycode = k :=
  ⟨0x64, idle, rfl, sctDefault_unique, ⟨0x64, 0x5C, 0x7C⟩, by decide, rfl⟩

theorem test_witness_LookupReturnsTheEntry_missing :
    ∃ (k : Byte) (s : State), s.inProgress = false ∧ UniqueKeys s.cfg.sct ∧
    ∀ e ∈ s.cfg.sct, e.keycode ≠ k :=
  ⟨0x65, idle, rfl, sctDefault_unique, by decide⟩

theorem test_witness_LookupReturnsTheEntry_default :
    ∃ s : State, s.inProgress = false ∧ s.cfg.sct = sctDefault :=
  ⟨idle, rfl, rfl⟩

theorem test_witness_ShiftIsTheWholeByteEqualToTheMarker :
    ∃ s : State, s.inProgress = false ∧ s.cfg.backlight = true :=
  ⟨idle, rfl, rfl⟩

theorem test_witness_ByteZeroAloneDecidesTheShift_shifted :
    ∃ (s : State) (k : Byte), s.inProgress = false ∧
    [2, 0, 0, 5, 0, 0, 0, 0#8].find? (fun b => decide (b ≠ 0x00#8 ∧ b ≠ 0x02#8)) = some k ∧ ∃ e ∈ s.cfg.sct, e.keycode = k :=
  ⟨idle, 5, rfl, by decide, ⟨0x05, 0x62, 0x42⟩, by decide, rfl⟩

theorem test_witness_ByteZeroAloneDecidesTheShift_plain :
    ∃ (s : State) (k : Byte), s.inProgress = false ∧
    [0x22, 2, 2, 5, 0, 0, 0, 0#8].find? (fun b => decide (b ≠ 0x00#8 ∧ b ≠ 0x02#8)) = some k ∧ ∃ e ∈ s.cfg.sct, e.keycode = k :=
  ⟨idle, 0x22, rfl, by decide, ⟨0x22, 0x35, 0x25⟩, by decide, rfl⟩

theorem test_witness_TheFilterTreatsEveryPositionAlike_empty :
    ∃ s : State, s.inProgress = false ∧
    [2, 0, 2, 0, 0, 2, 0, 0#8].filter (fun b => decide (b ≠ 0x00#8 ∧ b ≠ 0x02#8)) = [] :=
  ⟨idle, rfl, by decide⟩

theorem test_witness_TheFilterTreatsEveryPositionAlike_byte_0 :
    ∃ (s : State) (k : Byte) (more : List Byte), s.inProgress = false ∧
    [0x39, 0, 2, 0, 4, 0, 0, 0#8].filter (fun b => decide (b ≠ 0x00#8 ∧ b ≠ 0x02#8)) = k :: more ∧
    ∀ e ∈ s.cfg.sct, e.keycode ≠ k :=
  ⟨idle, 0x39, [4], rfl, by decide, by decide⟩

theorem test_witness_TheFilterTreatsEveryPositionAlike_byte_7 :
    ∃ (s : State) (k : Byte) (more : List Byte), s.inProgress = false ∧
    [2, 0, 2, 0, 0, 0, 0, 4#8].filter (fun b => decide (b ≠ 0x00#8 ∧ b ≠ 0x02#8)) = k :: more ∧
    ∃ e ∈ s.cfg.sct, e.keycode = k :=
  ⟨idle, 4, [], rfl, by decide, ⟨0x04, 0x61, 0x41⟩, by decide, rfl⟩

theorem test_witness_DecodeFrameDecodesTheFirstRemainingByte :
    ∃ s : State, s.inProgress = false ∧ s.frame.mod = 0x00 :=
  ⟨idle, rfl, rfl⟩

theorem test_witness_DecodeFrameLaws_filtered :
    ∃ (s : State) (frame : List Byte), s.inProgress = false ∧ frame.length = 8 ∧
    ∀ b ∈ frame, b = 0x00 ∨ b = 0x02 :=
  ⟨idle, [2, 0, 2, 0, 0, 2, 0, 0], rfl, by decide, by decide⟩

theorem test_witness_DecodeFrameLaws_same :
    ∃ (s : State) (f g : List Byte), s.inProgress = false ∧ f.length = 8 ∧ g.length = 8 ∧ f ≠ g ∧
    (f.head? = some 0x02 ↔ g.head? = some 0x02) ∧
    (f.filter (fun b => decide (b ≠ 0x00#8 ∧ b ≠ 0x02#8))).head? =
      (g.filter (fun b => decide (b ≠ 0x00#8 ∧ b ≠ 0x02#8))).head? :=
  ⟨idle, [2, 0, 5, 0, 0, 0, 0, 0], [2, 0, 0, 0, 0, 0, 5, 9], rfl, by decide⟩

theorem test_witness_DecodeFrameLaws_row :
    ∃ s : State, s.inProgress = false ∧ UniqueKeys s.cfg.sct ∧
    ∃ e ∈ s.cfg.sct, e.keycode ≠ 0x00 ∧ e.keycode ≠ 0x02 :=
  ⟨idle, rfl, sctDefault_unique, ⟨0x64, 0x5C, 0x7C⟩, by decide, by decide, by decide⟩

theorem test_witness_LookupFailureSkipsTheFrame :
    ∃ (s : State) (frame a b : List Byte) (k : Byte), s.inProgress = false ∧ frame.length = 8 ∧
    frame.find? (fun b => decide (b ≠ 0x00#8 ∧ b ≠ 0x02#8)) = some k ∧ (∀ e ∈ s.cfg.sct, e.keycode ≠ k) ∧
    a.length % 8 = 0 ∧ b.length % 8 = 0 ∧ a ≠ [] :=
  ⟨idle, [0, 0, 57, 0, 0, 0, 0, 0], [0, 0, 30, 0, 0, 0, 0, 0], [0, 0, 31, 0, 0, 0, 0, 0], 57, rfl, by decide, by decide,
    by decide, by decide, by decide, by decide⟩

theorem test_witness_AdmissibleTablesDecodeTheAnchors :
    ∃ s : State, s.inProgress = false ∧ Admissible s.cfg.sct :=
  ⟨idle, rfl, sctDefault_admissible⟩

theorem test_witness_KeycodeRowsGiveTheirCharacters :
    ∃ s : State, s.inProgress = false ∧ s.cfg.sct = sctDefault ∧ s.shift = true :=
  ⟨{ idle with shift := true }, rfl, rfl, rfl⟩

theorem test_witness_FilteredAndUnknownKeycodes_none :
    ∃ (s : State) (k : Byte), s.inProgress = false ∧ k ≠ 0x00 ∧ k ≠ 0x02 ∧ ∀ e ∈ s.cfg.sct, e.keycode ≠ k :=
  ⟨idle, 0x01, rfl, by decide, by decide, by decide⟩

theorem test_witness_FilteredAndUnknownKeycodes_row :
    ∃ s : State, s.inProgress = false ∧ UniqueKeys s.cfg.sct ∧
    ∃ e ∈ s.cfg.sct, e.keycode ≠ 0x00 ∧ e.keycode ≠ 0x02 ∧ unknownOk e.keycode = true :=
  ⟨{ idle with cfg := { cfg with sct := [⟨0x39, 0x41, 0x42⟩] } }, rfl, by unfold UniqueKeys; decide,
    ⟨0x39, 0x41, 0x42⟩, by decide, by decide, by decide, by decide⟩

theorem test_witness_KeycodeWordsRefineDecodeFrame :
    ∃ (s : State) (frame : List Byte) (pos : BitVec 3) (k : Byte), s.inProgress = false ∧
    frame.length = 8 ∧ frame[pos.toNat]? = some k ∧ k ≠ 0x00 ∧ k ≠ 0x02 ∧
    ∀ j, j < pos.toNat → frame[j]? = some 0x00 ∨ frame[j]? = some 0x02 :=
  ⟨idle, [2, 0, 0, 0, 0, 0, 0, 57], 7, 57, rfl, by decide⟩

theorem test_witness_DecodeScanResult :
    ∃ (s : State) (bytes : List Byte), s.inProgress = false ∧ bytes.length % 8 = 0 ∧ bytes ≠ [] :=
  ⟨idle, [0, 0, 40, 0, 0, 0, 0, 0], rfl, by decide, by decide⟩

theorem test_witness_NoResultExactlyWhenTheCutStringIsEmpty :
    ∃ (s : State) (bytes : List Byte), s.inProgress = false ∧ bytes.length % 8 = 0 ∧
    (scanChars s.cfg.sct bytes).head? = some 0x0A :=
  ⟨idle, [0, 0, 40, 0, 0, 0, 0, 0], rfl, by decide, by decide⟩

theorem test_witness_StreamingDecoderAgreesWithDecodeScan :
    ∃ (s : State) (bytes : List Byte), s.inProgress = false ∧ bytes.length % 8 = 0 ∧
    (streamScan s.cfg.sct bytes).done = true :=
  ⟨idle, [0, 0, 40, 0, 0, 0, 0, 0], rfl, by decide, by decide⟩

theorem test_witness_DecodeScanLaws_string :
    ∃ (s : State) (a : List Byte), s.inProgress = false ∧ a.length % 8 = 0 ∧
    returned (.decodeScan a) s = some (.scan (.str [0x31]) []) :=
  ⟨idle, [0, 0, 30, 0, 0, 0, 0, 0], rfl, by decide, by decide⟩

theorem test_witness_DecodeScanLaws_newline :
    ∃ (s : State) (a b : List Byte), s.inProgress = false ∧ a.length % 8 = 0 ∧ b.length % 8 = 0 ∧
    0x0A#8 ∈ scanChars s.cfg.sct a ∧ b ≠ [] :=
  ⟨idle, [0, 0, 40, 0, 0, 0, 0, 0], [0, 0, 30, 0, 0, 0, 0, 0], rfl, by decide⟩

theorem test_witness_WriteNibbleSendsThePulse :
    ∃ (n : Byte) (s : State), s.inProgress = false ∧ n.toNat < 16 :=
  ⟨15, idle, rfl, by decide⟩

theorem test_witness_WriteByteSendsHighThenLow :
    ∃ s : State, s.inProgress = false ∧ s.answerAt 2 = false :=
  ⟨failing 2, rfl, rfl⟩

theorem test_witness_InitSendsTheSixCommands :
    ∃ s : State, s.inProgress = false ∧ s.nextSucceed 36 :=
  ⟨idle, rfl, succeeds (by decide)⟩

theorem test_witness_WriteStringSendsOneLine_index :
    ∃ (n : Nat) (address : Byte) (line : LineSel) (s : State), s.inProgress = false ∧
    lineAddresses[n]? = some address ∧ line = .index (BitVec.ofNat 8 n) :=
  ⟨3, 0xD4, .index 3, idle, rfl, rfl, rfl⟩

theorem test_witness_WriteStringSendsOneLine_address :
    ∃ (n : Nat) (address : Byte) (line : LineSel) (s : State), s.inProgress = false ∧
    lineAddresses[n]? = some address ∧ line = .address address :=
  ⟨2, 0x94, .address 0x94, idle, rfl, rfl, rfl⟩

theorem test_witness_DefineGlyphSendsTheSlotAndRows :
    ∃ (slot : Byte) (bitmap : List Byte) (s : State), s.inProgress = false ∧ slot.toNat < 8 ∧
    bitmap.length = 8 :=
  ⟨7, List.replicate 8 0xFF, idle, rfl, by decide, by decide⟩

theorem test_witness_ShowProductSendsTwoLines :
    ∃ s : State, s.inProgress = false ∧ s.answerAt 150 = false :=
  ⟨failing 150, rfl, by decide⟩

theorem test_witness_ShowNotFoundSendsTwoLines :
    ∃ s : State, s.inProgress = false ∧ s.cfg.nfLine1 ≠ [] :=
  ⟨idle, rfl, by decide⟩

theorem test_witness_ControllerByteRowsSendTheirByte :
    ∃ s : State, s.inProgress = false ∧ (controllerRows 7 0xFF).length = 12 :=
  ⟨idle, rfl, rfl⟩

theorem test_witness_BusRowsWriteTheirByte :
    ∃ (s : State) (b : Bool), s.inProgress = false ∧ b = s.cfg.backlight :=
  ⟨ready, true, rfl, rfl⟩

theorem test_witness_BusFailureCutsTheTrace :
    ∃ (i : Instr) (s t : State), exec i s = .next t ∧ (∃ a b, Event.f a b ∈ newEvents s t) ∧
    ∃ b k, t.results = s.results ++ [.busFailure b k] :=
  ⟨.writeNibble 0x3 .command, failing 2, after (.writeNibble 0x3 .command) (failing 2), rfl,
    ⟨0x27, 0x38, by decide⟩, 0x38, 2, by decide⟩

theorem test_witness_CompletedTracesHaveTheirSizes :
    ∃ (s : State) (n slot : Byte) (bitmap : List Byte) (line : LineSel), s.inProgress = false ∧
    s.nextSucceed 272 ∧ n.toNat < 16 ∧ slot.toNat < 8 ∧ bitmap.length = 8 ∧ lineOk line = true :=
  ⟨idle, 15, 7, List.replicate 8 0x1F, .address 0xD4, rfl, succeeds (by decide), by decide⟩

theorem test_witness_BusBytesCarryTheBacklight :
    ∃ (i : Instr) (s t : State) (e : Event) (b : Byte), exec i s = .next t ∧ e ∈ newEvents s t ∧
    e.byte = some b :=
  ⟨.busSetup 4 false .character, idle, after (.busSetup 4 false .character) idle, .w 0x27 0x49, 0x49, rfl, by decide⟩

theorem test_witness_TrailingWriteIsInvisibleToTheTarget :
    ∃ s : State, s.nextSucceed 272 ∧ s.display ≠ none :=
  ⟨ready, ready_succeeds (by decide), by decide⟩

theorem test_witness_NothingIsRememberedBetweenOperations :
    ∃ s1 s2 : State, s1.cfg = s2.cfg ∧
    s1.inProgress = s2.inProgress ∧ (∀ j, j < 272 → s1.answerAt j = s2.answerAt j) ∧ s1.display ≠ s2.display ∧
    s1.shift ≠ s2.shift :=
  ⟨idle, { ready with shift := true }, rfl, rfl, fun _ _ => rfl, by decide, by decide⟩

theorem test_witness_LinesHoldTheLastDeliveredByte_delivered :
    ∃ (i : Instr) (s t : State), exec i s = .next t ∧
    (∀ a b, Event.f a b ∉ newEvents s t) ∧ t.lines = some 0x38 :=
  ⟨.writeNibble 0x3 .command, idle, after (.writeNibble 0x3 .command) idle, rfl, by
    intro a b hm
    change Event.f a b ∈ newEvents idle (after (.writeNibble 0x3 .command) idle) at hm
    rw [test_write_nibble] at hm
    simp at hm, by decide⟩

theorem test_witness_LinesHoldTheLastDeliveredByte_failed :
    ∃ (i : Instr) (s t : State), exec i s = .next t ∧ s.lines ≠ none ∧
    ∃ a b, Event.f a b ∈ newEvents s t :=
  ⟨.writeNibble 0x3 .command, { ready with answers := [true, false] },
    after (.writeNibble 0x3 .command) { ready with answers := [true, false] }, rfl, by decide, 0x27, 0x3C, by decide⟩

theorem test_witness_BusFailureLosesTheController :
    ∃ (i : Instr) (s t : State) (b : Byte) (k : Nat), exec i s = .next t ∧ s.display ≠ none ∧
    t.results = s.results ++ [.busFailure b k] :=
  ⟨.busStrobe 0 true .command, { ready with answers := [false] },
    after (.busStrobe 0 true .command) { ready with answers := [false] }, 0x08, 0, rfl, by decide⟩

theorem test_witness_InitMakesTheDisplayKnown :
    ∃ (s : State) (d0 : Display), s.inProgress = false ∧ s.nextSucceed 48 ∧ s.displayReady d0 :=
  ⟨ready, _, rfl, ready_succeeds (by decide), ready_displayReady⟩

theorem test_witness_WriteStringPutsTheLineInDisplayMemory :
    ∃ (n : Nat) (address : Byte) (line : LineSel) (s : State) (d : Display),
    s.inProgress = false ∧ s.nextSucceed 136 ∧ s.displayReady d ∧ d.increment = some true ∧
    lineAddresses[n]? = some address ∧ (line = .index (BitVec.ofNat 8 n) ∨ line = .address address) :=
  ⟨3, 0xD4, .index 3, ready, _, rfl, ready_succeeds (by decide), ready_displayReady, rfl, rfl, .inl rfl⟩

theorem test_witness_DefineGlyphFillsTheSlot :
    ∃ (slot : Byte) (bitmap : List Byte) (s : State) (d : Display), s.inProgress = false ∧
    s.nextSucceed 72 ∧ s.displayReady d ∧ d.increment = some true ∧ slot.toNat < 8 ∧ bitmap.length = 8 :=
  ⟨7, List.replicate 8 0xFF, ready, _, rfl, ready_succeeds (by decide), ready_displayReady, rfl, by decide,
    by decide⟩

theorem test_witness_RetrySequenceRestoresThePicture :
    ∃ (s : State) (bitmap : List Byte), s.inProgress = false ∧ s.nextSucceed 392 ∧
    bitmap.length = 8 ∧ s.display = none :=
  ⟨idle, List.replicate 8 0x1F, rfl, succeeds (by decide), by decide, rfl⟩

theorem test_witness_ShowOperationsPutTheirTwoLines :
    ∃ (s : State) (d : Display), s.inProgress = false ∧ s.nextSucceed 272 ∧ s.displayReady d ∧
    d.increment = some true :=
  ⟨ready, _, rfl, ready_succeeds (by decide), ready_displayReady, rfl⟩

theorem test_witness_ShowOperationsPutTheirTwoLines_shown :
    ∃ (s : State) (d : Display), s.inProgress = false ∧ s.nextSucceed 272 ∧ s.displayReady d ∧
    d.increment = some true ∧ d.shiftMode = some false ∧ d.displayOn = some true ∧ d.offset = some 0 ∧
    d.twoLines = some true ∧ d.fiveByTen = some false :=
  ⟨{ ready with display := some { Display.unknown .four with
    increment := some true, shiftMode := some false, displayOn := some true, offset := some 0, twoLines := some true,
    fiveByTen := some false } }, _, rfl, succeeds (by decide),
    ⟨rfl, rfl, 0x08, rfl, rfl⟩, rfl, rfl, rfl, rfl, rfl, rfl⟩

theorem test_witness_ShowOperationsPutTheirTwoLines_shifting :
    ∃ (s : State) (d : Display), s.inProgress = false ∧ s.nextSucceed 272 ∧ s.displayReady d ∧
    d.increment = some true ∧ d.shiftMode = some true ∧ d.displayOn = some true ∧ d.offset = some 0 ∧
    d.twoLines = some true ∧ d.fiveByTen = some false :=
  ⟨{ ready with display := some { Display.unknown .four with
    increment := some true, shiftMode := some true, displayOn := some true, offset := some 0, twoLines := some true,
    fiveByTen := some false } }, _, rfl, succeeds (by decide),
    ⟨rfl, rfl, 0x08, rfl, rfl⟩, rfl, rfl, rfl, rfl, rfl, rfl⟩

theorem test_witness_ShowOperationsPutTheirTwoLines_one_line :
    ∃ (s : State) (d : Display), s.inProgress = false ∧ s.nextSucceed 272 ∧ s.displayReady d ∧
    d.increment = some true ∧ d.shiftMode = some false ∧ d.displayOn = some true ∧ d.offset = some 0 ∧
    d.twoLines = some false ∧ d.fiveByTen = some false :=
  ⟨{ ready with display := some { Display.unknown .four with
    increment := some true, shiftMode := some false, displayOn := some true, offset := some 0, twoLines := some false,
    fiveByTen := some false } }, _, rfl, succeeds (by decide),
    ⟨rfl, rfl, 0x08, rfl, rfl⟩, rfl, rfl, rfl, rfl, rfl, rfl⟩

theorem test_witness_ShowOperationsPutTheirTwoLines_off :
    ∃ (s : State) (d : Display), s.inProgress = false ∧ s.nextSucceed 272 ∧ s.displayReady d ∧
    d.increment = some true ∧ d.shiftMode = some false ∧ d.displayOn = some false ∧ d.offset = none ∧
    d.twoLines = none ∧ d.fiveByTen = none :=
  ⟨{ ready with display := some { Display.unknown .four with
    increment := some true, shiftMode := some false, displayOn := some false, offset := none, twoLines := none,
    fiveByTen := none } }, _, rfl, succeeds (by decide),
    ⟨rfl, rfl, 0x08, rfl, rfl⟩, rfl, rfl, rfl, rfl, rfl, rfl⟩

theorem test_witness_CharacterBytesAreStoredAtTheCounter_ddram :
    ∃ (s : State) (d : Display) (a : BitVec 7), s.inProgress = false ∧
    s.nextSucceed 8 ∧ s.displayReady d ∧ d.counter = some (.ddram (some a)) ∧
    ddramExists a = true ∧ d.increment = some true :=
  ⟨counting (some (.ddram (some 0x67))),
    _, 0x67, rfl, succeeds (by decide), ⟨rfl, rfl, 0x08, rfl, rfl⟩, rfl, by decide, rfl⟩

theorem test_witness_CharacterBytesAreStoredAtTheCounter_no_increment :
    ∃ (s : State) (d : Display) (a : BitVec 7), s.inProgress = false ∧
    s.nextSucceed 8 ∧ s.displayReady d ∧ d.counter = some (.ddram (some a)) ∧
    d.increment ≠ some true :=
  ⟨{ ready with display := some { Display.unknown .four with counter := some (.ddram (some 0)) } },
    _, 0, rfl, succeeds (by decide), ⟨rfl, rfl, 0x08, rfl, rfl⟩, rfl, by decide⟩

theorem test_witness_CharacterBytesAreStoredAtTheCounter_hole :
    ∃ (s : State) (d : Display) (a : BitVec 7), s.inProgress = false ∧
    s.nextSucceed 8 ∧ s.displayReady d ∧ d.counter = some (.ddram (some a)) ∧
    ddramExists a = false :=
  ⟨counting (some (.ddram (some 0x7F))),
    _, 0x7F, rfl, succeeds (by decide), ⟨rfl, rfl, 0x08, rfl, rfl⟩, rfl, by decide⟩

theorem test_witness_CharacterBytesAreStoredAtTheCounter_cgram :
    ∃ (s : State) (d : Display) (a : BitVec 6), s.inProgress = false ∧
    s.nextSucceed 8 ∧ s.displayReady d ∧ d.counter = some (.cgram (some a)) ∧
    d.increment = some true :=
  ⟨counting (some (.cgram (some 63))),
    _, 63, rfl, succeeds (by decide), ⟨rfl, rfl, 0x08, rfl, rfl⟩, rfl, rfl⟩

theorem test_witness_CharacterBytesAreStoredAtTheCounter_ddram_unknown :
    ∃ (s : State) (d : Display), s.inProgress = false ∧
    s.nextSucceed 8 ∧ s.displayReady d ∧ d.counter = some (.ddram none) :=
  ⟨counting (some (.ddram none)),
    _, rfl, succeeds (by decide), ⟨rfl, rfl, 0x08, rfl, rfl⟩, rfl⟩

theorem test_witness_CharacterBytesAreStoredAtTheCounter_cgram_unknown :
    ∃ (s : State) (d : Display), s.inProgress = false ∧
    s.nextSucceed 8 ∧ s.displayReady d ∧ d.counter = some (.cgram none) :=
  ⟨counting (some (.cgram none)),
    _, rfl, succeeds (by decide), ⟨rfl, rfl, 0x08, rfl, rfl⟩, rfl⟩

theorem test_witness_CharacterBytesAreStoredAtTheCounter_unknown :
    ∃ (s : State) (d : Display), s.inProgress = false ∧
    s.nextSucceed 8 ∧ s.displayReady d ∧ d.counter = none :=
  ⟨counting (none),
    _, rfl, succeeds (by decide), ⟨rfl, rfl, 0x08, rfl, rfl⟩, rfl⟩

theorem test_witness_CharacterBytesAreStoredAtTheCounter_stays :
    ∃ (s : State) (d : Display), s.inProgress = false ∧ s.nextSucceed 8 ∧ s.displayReady d ∧ d.shiftMode = some false :=
  ⟨{ ready with display := some { Display.unknown .four with shiftMode := some false } }, _, rfl, succeeds (by decide),
    ⟨rfl, rfl, 0x08, rfl, rfl⟩, rfl⟩

theorem test_witness_CharacterBytesAreStoredAtTheCounter_shifts :
    ∃ (s : State) (d : Display), s.inProgress = false ∧ s.nextSucceed 8 ∧ s.displayReady d ∧ d.shiftMode = some true :=
  ⟨{ ready with display := some { Display.unknown .four with shiftMode := some true } }, _, rfl, succeeds (by decide),
    ⟨rfl, rfl, 0x08, rfl, rfl⟩, rfl⟩

theorem test_witness_CommandRowsActOnTheController :
    ∃ (s : State) (d : Display), s.inProgress = false ∧ s.nextSucceed 8 ∧ s.displayReady d :=
  ⟨ready, _, rfl, ready_succeeds (by decide), ready_displayReady⟩

theorem test_witness_LoneNibbleShiftsThePairing_upper :
    ∃ (n : Byte) (s : State) (d : Display), n.toNat < 16 ∧ s.inProgress = false ∧
    s.nextSucceed 4 ∧ s.display = some d ∧ s.enableIsLow ∧ d.iface = .four :=
  ⟨15, ready, _, by decide, rfl, ready_succeeds (by decide), rfl, ⟨0x08, rfl, by decide⟩, rfl⟩

theorem test_witness_LoneNibbleShiftsThePairing_lower :
    ∃ (n : Byte) (s : State) (d : Display) (hi : Nibble), n.toNat < 16 ∧ s.inProgress = false ∧
    s.nextSucceed 4 ∧ s.display = some d ∧ s.enableIsLow ∧ d.iface = .fourHalf hi true :=
  ⟨15, facing (.fourHalf 3 true), _, 3, by decide, rfl, succeeds (by decide), rfl, ⟨0x08, rfl, by decide⟩, rfl⟩

theorem test_witness_LoneNibbleShiftsThePairing_other_mode :
    ∃ (n : Byte) (s : State) (d : Display) (hi : Nibble), n.toNat < 16 ∧ s.inProgress = false ∧
    s.nextSucceed 4 ∧ s.display = some d ∧ s.enableIsLow ∧ d.iface = .fourHalf hi true ∧ hi ≠ 3 :=
  ⟨0, facing (.fourHalf 8 true), _, 8, by decide, rfl, succeeds (by decide), rfl, ⟨0x08, rfl, by decide⟩, rfl, by decide⟩

theorem test_witness_AStrayNibbleSplitsTheNextByte :
    ∃ (s : State) (d : Display) (hi : Nibble), s.inProgress = false ∧
    s.nextSucceed 8 ∧ s.display = some d ∧ s.enableIsLow ∧ d.iface = .fourHalf hi false ∧ hi ≠ 3 :=
  ⟨facing (.fourHalf 8 false), _, 8, rfl, succeeds (by decide), rfl, ⟨0x08, rfl, by decide⟩, rfl, by decide⟩

theorem test_witness_LoweringTheEnableLineCommitsTheNibble_kept :
    ∃ (b old : Byte) (s : State) (d : Display), s.lines = some old ∧ s.display = some d ∧ d.inv ∧
    b.getLsbD 2 = true ∧ old.getLsbD 2 = true :=
  ⟨0x3C, 0x3C, { ready with lines := some 0x3C }, _, rfl, rfl, ⟨rfl, rfl, by simp [Display.unknown]⟩, by decide⟩

theorem test_witness_LoweringTheEnableLineCommitsTheNibble_read :
    ∃ (b old : Byte) (s : State) (d : Display), s.lines = some old ∧ s.display = some d ∧ d.inv ∧
    b.getLsbD 2 = false ∧ old.getLsbD 2 = true ∧ b.getLsbD 1 = true :=
  ⟨0x3A, 0x3C, strobing .four, _, rfl, rfl, ⟨rfl, rfl, by simp [Display.unknown]⟩, by decide⟩

theorem test_witness_LoweringTheEnableLineCommitsTheNibble_four :
    ∃ (b old : Byte) (s : State) (d : Display), s.lines = some old ∧ s.display = some d ∧ d.inv ∧
    b.getLsbD 2 = false ∧ old.getLsbD 2 = true ∧ b.getLsbD 1 = false ∧ d.iface = .four :=
  ⟨0x38, 0x3C, strobing (.four), _, rfl, rfl, ⟨rfl, rfl, by simp [Display.unknown]⟩,
    by decide, by decide, by decide, rfl⟩

theorem test_witness_LoweringTheEnableLineCommitsTheNibble_lower :
    ∃ (b old : Byte) (s : State) (d : Display), s.lines = some old ∧ s.display = some d ∧ d.inv ∧
    b.getLsbD 2 = false ∧ old.getLsbD 2 = true ∧ b.getLsbD 1 = false ∧ ∃ hi, d.iface = .fourHalf hi (b.getLsbD 0) :=
  ⟨0x39, 0x3C, strobing (.fourHalf 4 true), _, rfl, rfl, ⟨rfl, rfl, by simp [Display.unknown]⟩,
    by decide, by decide, by decide, 4, rfl⟩

theorem test_witness_LoweringTheEnableLineCommitsTheNibble_other_mode :
    ∃ (b old : Byte) (s : State) (d : Display), s.lines = some old ∧ s.display = some d ∧ d.inv ∧
    b.getLsbD 2 = false ∧ old.getLsbD 2 = true ∧ b.getLsbD 1 = false ∧ ∃ hi, d.iface = .fourHalf hi (!b.getLsbD 0) ∧ hi ≠ 3 :=
  ⟨0x39, 0x3C, strobing (.fourHalf 4 false), _, rfl, rfl, ⟨rfl, rfl, by simp [Display.unknown]⟩,
    by decide, by decide, by decide, 4, rfl, by decide⟩

theorem test_witness_LoweringTheEnableLineCommitsTheNibble_eight_three :
    ∃ (b old : Byte) (s : State) (d : Display), s.lines = some old ∧ s.display = some d ∧ d.inv ∧
    b.getLsbD 2 = false ∧ old.getLsbD 2 = true ∧ b.getLsbD 1 = false ∧ d.iface = .eight ∧ b.getLsbD 0 = false ∧ b.toNat / 16 = 3 :=
  ⟨0x38, 0x3C, strobing (.eight), _, rfl, rfl, ⟨rfl, rfl, by simp [Display.unknown]⟩,
    by decide, by decide, by decide, rfl, by decide⟩

theorem test_witness_LoweringTheEnableLineCommitsTheNibble_eight_two :
    ∃ (b old : Byte) (s : State) (d : Display), s.lines = some old ∧ s.display = some d ∧ d.inv ∧
    b.getLsbD 2 = false ∧ old.getLsbD 2 = true ∧ b.getLsbD 1 = false ∧ d.iface = .eight ∧ b.getLsbD 0 = false ∧ b.toNat / 16 = 2 :=
  ⟨0x28, 0x3C, strobing (.eight), _, rfl, rfl, ⟨rfl, rfl, by simp [Display.unknown]⟩,
    by decide, by decide, by decide, rfl, by decide⟩

theorem test_witness_LoweringTheEnableLineCommitsTheNibble_third :
    ∃ (b old : Byte) (s : State) (d : Display), s.lines = some old ∧ s.display = some d ∧ d.inv ∧
    b.getLsbD 2 = false ∧ old.getLsbD 2 = true ∧ b.getLsbD 1 = false ∧ d.iface = .unsynced 2 ∧ b.getLsbD 0 = false ∧ b.toNat / 16 = 3 :=
  ⟨0x38, 0x3C, strobing (.unsynced 2), _, rfl, rfl, ⟨rfl, rfl, by simp [Display.unknown]⟩,
    by decide, by decide, by decide, rfl, by decide⟩

theorem test_witness_LoweringTheEnableLineCommitsTheNibble_restart :
    ∃ (b old : Byte) (s : State) (d : Display), s.lines = some old ∧ s.display = some d ∧ d.inv ∧
    b.getLsbD 2 = false ∧ old.getLsbD 2 = true ∧ b.getLsbD 1 = false ∧ d.iface = .unsynced 2 ∧ b.getLsbD 0 = true :=
  ⟨0x39, 0x3C, strobing (.unsynced 2), _, rfl, rfl, ⟨rfl, rfl, by simp [Display.unknown]⟩,
    by decide, by decide, by decide, rfl, by decide⟩

theorem test_witness_StrobesInTheEightBitInterface_display_address :
    ∃ (n : Byte) (s : State) (d : Display), n.toNat = 15 ∧ s.inProgress = false ∧
    s.nextSucceed 4 ∧ s.display = some d ∧ s.enableIsLow ∧ d.iface = .eight :=
  ⟨15, facing .eight, _, by decide, rfl, succeeds (by decide), rfl, ⟨0x08, rfl, by decide⟩, rfl⟩

theorem test_witness_StrobesInTheEightBitInterface_glyph_address :
    ∃ (n : Byte) (s : State) (d : Display), n.toNat = 7 ∧ s.inProgress = false ∧
    s.nextSucceed 4 ∧ s.display = some d ∧ s.enableIsLow ∧ d.iface = .eight :=
  ⟨7, facing .eight, _, by decide, rfl, succeeds (by decide), rfl, ⟨0x08, rfl, by decide⟩, rfl⟩

theorem test_witness_StrobesInTheEightBitInterface_function_set_8 :
    ∃ (n : Byte) (s : State) (d : Display), n.toNat = 3 ∧ s.inProgress = false ∧
    s.nextSucceed 4 ∧ s.display = some d ∧ s.enableIsLow ∧ d.iface = .eight :=
  ⟨3, facing .eight, _, by decide, rfl, succeeds (by decide), rfl, ⟨0x08, rfl, by decide⟩, rfl⟩

theorem test_witness_StrobesInTheEightBitInterface_function_set_4 :
    ∃ (n : Byte) (s : State) (d : Display), n.toNat = 2 ∧ s.inProgress = false ∧
    s.nextSucceed 4 ∧ s.display = some d ∧ s.enableIsLow ∧ d.iface = .eight :=
  ⟨2, facing .eight, _, by decide, rfl, succeeds (by decide), rfl, ⟨0x08, rfl, by decide⟩, rfl⟩

theorem test_witness_StrobesInTheEightBitInterface_shift :
    ∃ (n : Byte) (s : State) (d : Display), n.toNat = 1 ∧ s.inProgress = false ∧
    s.nextSucceed 4 ∧ s.display = some d ∧ s.enableIsLow ∧ d.iface = .eight :=
  ⟨1, facing .eight, _, by decide, rfl, succeeds (by decide), rfl, ⟨0x08, rfl, by decide⟩, rfl⟩

theorem test_witness_StrobesInTheEightBitInterface_lower_half :
    ∃ (n : Byte) (s : State) (d : Display), n.toNat = 0 ∧ s.inProgress = false ∧
    s.nextSucceed 4 ∧ s.display = some d ∧ s.enableIsLow ∧ d.iface = .eight :=
  ⟨0, facing .eight, _, by decide, rfl, succeeds (by decide), rfl, ⟨0x08, rfl, by decide⟩, rfl⟩

theorem test_witness_StrobesInTheEightBitInterface_ddram :
    ∃ (s : State) (d : Display), s.inProgress = false ∧
    s.nextSucceed 4 ∧ s.display = some d ∧ s.enableIsLow ∧ d.iface = .eight ∧ d.counter = some (.ddram (some 0x67)) :=
  ⟨{ ready with display := some { Display.unknown .eight with counter := some (.ddram (some 0x67)) } }, _, rfl, succeeds (by decide), rfl,
    ⟨0x08, rfl, by decide⟩, rfl, rfl⟩

theorem test_witness_StrobesInTheEightBitInterface_cgram :
    ∃ (s : State) (d : Display), s.inProgress = false ∧
    s.nextSucceed 4 ∧ s.display = some d ∧ s.enableIsLow ∧ d.iface = .eight ∧ d.counter = some (.cgram (some 63)) :=
  ⟨{ ready with display := some { Display.unknown .eight with counter := some (.cgram (some 63)) } }, _, rfl, succeeds (by decide), rfl,
    ⟨0x08, rfl, by decide⟩, rfl, rfl⟩

theorem test_witness_GlyphCellsShowTheBitmap_slot :
    ∃ (slot : Byte) (bitmap : List Byte) (s : State) (d : Display) (a : Nat) (c : Byte), s.inProgress = false ∧
    s.nextSucceed 72 ∧ s.displayReady d ∧ d.increment = some true ∧ slot.toNat < 8 ∧ bitmap.length = 8 ∧
    d.ddram.read a = some c ∧ c.toNat < 16 ∧ c.toNat % 8 = slot.toNat :=
  ⟨7, List.replicate 8 0x1F, { ready with display := some { Display.unknown .four with
    increment := some true, ddram := [(0x40, 0x07)] } }, _, 0x40, 0x07, rfl, succeeds (by decide), ⟨rfl, rfl, 0x08, rfl, rfl⟩, rfl, by decide,
    by decide, rfl, by decide⟩

theorem test_witness_GlyphCellsShowTheBitmap_slot_again :
    ∃ (slot : Byte) (bitmap : List Byte) (s : State) (d : Display) (a : Nat) (c : Byte), s.inProgress = false ∧
    s.nextSucceed 72 ∧ s.displayReady d ∧ d.increment = some true ∧ slot.toNat < 8 ∧ bitmap.length = 8 ∧
    d.ddram.read a = some c ∧ 8 ≤ c.toNat ∧ c.toNat < 16 ∧ c.toNat % 8 = slot.toNat :=
  ⟨7, List.replicate 8 0x1F, { ready with display := some { Display.unknown .four with
    increment := some true, ddram := [(0x40, 0x0F)] } }, _, 0x40, 0x0F, rfl, succeeds (by decide), ⟨rfl, rfl, 0x08, rfl, rfl⟩, rfl, by decide,
    by decide, rfl, by decide⟩

theorem test_witness_GlyphCellsShowTheBitmap_other_slot :
    ∃ (slot : Byte) (bitmap : List Byte) (s : State) (d : Display) (a : Nat) (c : Byte), s.inProgress = false ∧
    s.nextSucceed 72 ∧ s.displayReady d ∧ d.increment = some true ∧ slot.toNat < 8 ∧ bitmap.length = 8 ∧
    d.ddram.read a = some c ∧ c.toNat < 16 ∧ c.toNat % 8 ≠ slot.toNat :=
  ⟨7, List.replicate 8 0x1F, { ready with display := some { Display.unknown .four with
    increment := some true, ddram := [(0x40, 0x08)] } }, _, 0x40, 0x08, rfl, succeeds (by decide), ⟨rfl, rfl, 0x08, rfl, rfl⟩, rfl, by decide,
    by decide, rfl, by decide⟩

theorem test_witness_GlyphCellsShowTheBitmap_rom :
    ∃ (slot : Byte) (bitmap : List Byte) (s : State) (d : Display) (a : Nat) (c : Byte), s.inProgress = false ∧
    s.nextSucceed 72 ∧ s.displayReady d ∧ d.increment = some true ∧ slot.toNat < 8 ∧ bitmap.length = 8 ∧
    d.ddram.read a = some c ∧ 0x20 ≤ c.toNat ∧ c.toNat < 0x80 :=
  ⟨7, List.replicate 8 0x1F, { ready with display := some { Display.unknown .four with
    increment := some true, ddram := [(0x40, 0x20)] } }, _, 0x40, 0x20, rfl, succeeds (by decide), ⟨rfl, rfl, 0x08, rfl, rfl⟩, rfl, by decide,
    by decide, rfl, by decide⟩

end Sys2Proof.Machine.Tests
end

/-! The HID report decoder on one frame (41_hid_decoder.md R111 to R113): what the filter leaves, what decides SHIFT, and
what DECODE_FRAME returns. -/

namespace Sys2Proof.Machine

/-! The filter and the shift. -/

/-- The filter of R112 as the statements write it. -/
theorem not_filtered_eq_decide (b : Byte) : (!filtered b) = decide (b ≠ 0x00#8 ∧ b ≠ 0x02#8) := by
  rw [Bool.eq_iff_iff]
  simp [filtered, noKey, shiftMarker]

/-- No position is exempt from the filter (R112). -/
theorem remaining_eq_filter (f : Frame) :
    remaining f = f.toBytes.filter (fun b => decide (b ≠ 0x00#8 ∧ b ≠ 0x02#8)) := by
  simp only [remaining, not_filtered_eq_decide]

/-- The first remaining byte is the first byte of the frame that passes the filter. -/
theorem remaining_head?_eq_find? (f : Frame) :
    (remaining f).head? = f.toBytes.find? (fun b => decide (b ≠ 0x00#8 ∧ b ≠ 0x02#8)) := by
  rw [remaining_eq_filter, List.head?_filter]

/-- SHIFT compares the whole byte with the marker (R111). -/
theorem shiftFlag_eq_decide (b : Byte) : shiftFlag b = decide (b = 0x02#8) := rfl

/-! One keycode. -/

/-- A keycode without a row gives Empty and the LookupFailure. -/
theorem decodeKey_of_no_row {sct : List KeycodeEntry} {k : Byte} (shift : Bool) (h : ∀ e ∈ sct, e.keycode ≠ k) :
    decodeKey sct shift k = (.empty, some k) := by
  simp [decodeKey, sctEntry_none.mpr h]

/-- A keycode with a row gives a character of one of its rows, and no report. -/
theorem decodeKey_of_row {sct : List KeycodeEntry} {e0 : KeycodeEntry} (shift : Bool) (h : e0 ∈ sct) :
    ∃ e ∈ sct, e.keycode = e0.keycode ∧ decodeKey sct shift e0.keycode = (.char (selectChar shift e), none) := by
  cases he : sctEntry sct e0.keycode with
  | none => exact absurd rfl (sctEntry_none.mp he e0 h)
  | some e =>
    obtain ⟨hmem, hkey⟩ := sctEntry_some he
    exact ⟨e, hmem, hkey, by simp [decodeKey, he]⟩

/-! The loaded frame. -/

/-- A loaded frame of filtered bytes only: Empty without a report. -/
theorem State.decodeLoaded_of_nothing_left {f : Frame} (s : State) (h : remaining f = []) :
    (s.loadFrame f).decodeLoaded = (.empty, none) := by
  simp [State.decodeLoaded, h]

/-- Any other loaded frame: its first remaining byte is decoded, under the shift that byte 0 gives. -/
theorem State.decodeLoaded_of_first_left {f : Frame} {k : Byte} (s : State) (h : (remaining f).head? = some k) :
    (s.loadFrame f).decodeLoaded = decodeKey s.cfg.sct (decide (f.mod = 0x02#8)) k := by
  obtain ⟨more, hrem⟩ := List.head?_eq_some_iff.mp h
  simp [State.decodeLoaded, hrem, shiftFlag_eq_decide]

/-! DECODE_FRAME. -/

/-- On an idle core DECODE_FRAME of the eight bytes of a frame is the decoding of that frame. -/
theorem exec_decodeFrame_toBytes (f : Frame) {s : State} (h : s.inProgress = false) :
    exec (.decodeFrame f.toBytes) s = .next (s.started.decodeFrame f) :=
  accept_idle (run := State.decodeFrame f) h

/-- DECODE_FRAME returns the value and the report of the loaded frame. -/
theorem returned_decodeFrame_toBytes (f : Frame) {s : State} (h : s.inProgress = false) :
    returned (.decodeFrame f.toBytes) s =
      some (.frame (s.started.loadFrame f).decodeLoaded.1 (s.started.loadFrame f).decodeLoaded.2) := by
  simp [returned, exec_decodeFrame_toBytes f h]

/-- Nothing left: Empty, and no report (R113). -/
theorem returned_decodeFrame_of_nothing_left {f : Frame} {s : State} (hidle : s.inProgress = false)
    (h : remaining f = []) : returned (.decodeFrame f.toBytes) s = some (.frame .empty none) := by
  rw [returned_decodeFrame_toBytes f hidle, State.decodeLoaded_of_nothing_left _ h]

section FirstLeft

variable {f : Frame} {s : State} {k : Byte} (hidle : s.inProgress = false) (hfirst : (remaining f).head? = some k)
include hidle hfirst

/-- The first byte left has no row: Empty and the LookupFailure of it (R113). -/
theorem returned_decodeFrame_of_no_row (h : ∀ e ∈ s.cfg.sct, e.keycode ≠ k) :
    returned (.decodeFrame f.toBytes) s = some (.frame .empty (some k)) := by
  rw [returned_decodeFrame_toBytes f hidle, State.decodeLoaded_of_first_left _ hfirst, State.started_cfg,
    decodeKey_of_no_row _ h]

/-- The first byte left has a row: its shifted character exactly if the whole of byte 0 is the marker (R111, R113). -/
theorem returned_decodeFrame_of_row {e0 : KeycodeEntry} (hmem : e0 ∈ s.cfg.sct) (hkey : e0.keycode = k) :
    ∃ e ∈ s.cfg.sct, e.keycode = k ∧ returned (.decodeFrame f.toBytes) s =
      some (.frame (.char (if f.mod = 0x02#8 then e.shifted else e.plain)) none) := by
  subst hkey
  obtain ⟨e, he, hek, hdec⟩ := decodeKey_of_row (decide (f.mod = 0x02#8)) hmem
  refine ⟨e, he, hek, ?_⟩
  rw [returned_decodeFrame_toBytes f hidle, State.decodeLoaded_of_first_left _ hfirst, State.started_cfg, hdec]
  simp [selectChar]

end FirstLeft

/-! The obligations. -/

/-- Settles O18: the filter is one list filter over the eight bytes, and DECODE_FRAME looks its head up. -/
theorem theFilterTreatsEveryPositionAlike : Obligations.TheFilterTreatsEveryPositionAlike := by
  intro s b0 b1 b2 b3 b4 b5 b6 b7 hidle frame rem
  let f : Frame := ⟨b0, b1, b2, b3, b4, b5, b6, b7⟩
  have hrem : ∀ g : Frame, g.toBytes = frame → remaining g = rem := fun g hg => by rw [remaining_eq_filter, hg]
  have hf : remaining f = rem := hrem f rfl
  refine ⟨hrem, fun hnil => ?_, fun k more hcons => ?_⟩
  · exact returned_decodeFrame_of_nothing_left (f := f) hidle (hf.trans hnil)
  · have hfirst : (remaining f).head? = some k := by rw [hf, hcons, List.head?_cons]
    exact ⟨returned_decodeFrame_of_no_row (f := f) hidle hfirst,
      fun _ => returned_decodeFrame_of_row (f := f) hidle hfirst⟩

/-- Settles O56: SHIFT is the equality of byte 0 with the marker, and it alone selects the column of the row found. -/
theorem byteZeroAloneDecidesTheShift : Obligations.ByteZeroAloneDecidesTheShift := by
  intro s b0 b1 b2 b3 b4 b5 b6 b7
  let f : Frame := ⟨b0, b1, b2, b3, b4, b5, b6, b7⟩
  refine ⟨shiftFlag_eq_decide b0, fun hidle k hfind _ => ?_⟩
  exact returned_decodeFrame_of_row (f := f) hidle ((remaining_head?_eq_find? f).trans hfind)

end Sys2Proof.Machine

/-! The request layout (30_encoding.md R64 to R81; Log 1): what each part of the decoder reads is what the encoder writes, in
both directions. -/

namespace Sys2Proof

/-! The rows of a code word. -/

theorem eq_ofNat_of_toNat_eq {k : Byte} {n : Nat} (h : k.toNat = n) : k = BitVec.ofNat 8 n :=
  by simp [← h]

theorem keycodeRow_of_unknownOk {k : Byte} (pos : KeyPlace) (h : unknownOk k = true) :
    keycodeRow k pos = .keyUnknown k pos := by
  unfold keycodeRow
  split
  case h_57 => rfl
  all_goals
    next hk =>
    cases eq_ofNat_of_toNat_eq hk
    exact absurd h (by decide)

/-- Every value of a KEYCODE word has one row, which is encoded by that value. -/
theorem encode_keycodeRow (k : Byte) (pos : KeyPlace) : encode (keycodeRow k pos) = keyBytes k pos := by
  unfold keycodeRow
  split
  case h_57 => rfl
  all_goals
    next hk =>
    cases eq_ofNat_of_toNat_eq hk
    rfl

theorem keycodeRow_canonical (k : Byte) (pos : KeyPlace) : (keycodeRow k pos).canonical = true := by
  cases h : unknownOk k with
  | true => rw [keycodeRow_of_unknownOk pos h]; exact h
  | false =>
    have hrows : keycodeRowValues.all (fun k => (keycodeRow k pos).canonical) = true := rfl
    exact List.all_eq_true.mp hrows k (by simpa [unknownOk] using h)

/-- A command word with a row is that row's encoding (30_encoding.md R68 to R70). -/
theorem encode_commandRow {c : Byte} {i : Instr} (h : commandRow c = some i) :
    i.canonical = true ∧ encode i = (.cmd, [c]) := by
  have hall : ∀ c : Byte, (commandRow c).all (fun i => i.canonical && decide (encode i = (.cmd, [c]))) = true := by decide
  simpa [h] using hall c

/-- A bus word with a row is that row's encoding (30_encoding.md R64). -/
theorem encode_busRow {w : Byte} {i : Instr} (h : busRow w = some i) :
    i.canonical = true ∧ encode i = (.bus, [w]) := by
  have hall : ∀ w : Byte, (busRow w).all (fun i => i.canonical && decide (encode i = (.bus, [w]))) = true := by decide
  simpa [h] using hall w

theorem busRow_busWord (n : Nibble) (b strobe : Bool) (m : Mode) :
    busRow (busWord n b strobe m) = some (if strobe then .busStrobe n b m else .busSetup n b m) := by
  cases b <;> cases strobe <;> cases m <;> revert n <;> decide

theorem commandRow_cgramAddr (s : BitVec 3) :
    commandRow (0x40 ||| (s.setWidth 8 <<< 3)) = some (.cgramAddr s) := by
  revert s; decide

/-! What a part of the decoder has read. -/

theorem of_takeByte {bs rest : List Byte} {b : Byte} (h : takeByte bs = .ok (b, rest)) : bs = b :: rest := by
  cases bs with
  | nil => simp [takeByte] at h
  | cons x xs => simpa [takeByte] using h

/-- The byte a layout tag is written as. -/
def tagByte (t : Bool) : Byte := if t then 0x01 else 0x00

theorem of_takeTag {bs rest : List Byte} {t : Bool} (h : takeTag bs = .ok (t, rest)) : bs = tagByte t :: rest := by
  cases bs with
  | nil => simp [takeTag] at h
  | cons x xs =>
    simp only [takeTag] at h
    split_ifs at h with h0 h1
    · simp_all [tagByte]
    · simp_all [tagByte]

theorem of_takeMode {bs rest : List Byte} {m : Mode} (h : takeMode bs = .ok (m, rest)) : bs = modeByte m :: rest := by
  unfold takeMode at h
  split at h
  · next t r ht =>
    cases h
    cases t <;> exact of_takeTag ht
  · cases h

theorem of_takeSeq : ∀ (bs : List Byte) {l rest : List Byte}, takeSeq bs = .ok (l, rest) → bs = seqBytes l ++ rest
  | [], _, _, h => by simp [takeSeq] at h
  | [tag], l, rest, h => by
    rw [takeSeq.eq_def] at h
    dsimp only at h
    split_ifs at h with h0
    cases h
    simp [h0, seqBytes]
  | tag :: b :: bs, l, rest, h => by
    rw [takeSeq.eq_def] at h
    dsimp only at h
    split_ifs at h with h0 h1
    · cases h
      simp [h0, seqBytes]
    · split at h
      · next hl =>
        cases h
        simp [h1, seqBytes, of_takeSeq bs hl]
      · cases h

theorem of_takeBlock {bs l rest : List Byte} (h : takeBlock bs = .ok (l, rest)) : bs = blockBytes l ++ rest := by
  unfold takeBlock at h
  split at h
  · cases h
  · next ht =>
    split at h
    · cases h
    · next hs =>
      split_ifs at h with hlen
      cases h
      simp [of_takeTag ht, of_takeSeq _ hs, blockBytes, hlen, tagByte]
  · next ht =>
    cases h
    exact of_takeTag ht
  · cases h

theorem of_takeLine {bs rest : List Byte} {l : LineSel} (h : takeLine bs = .ok (l, rest)) : bs = lineBytes l ++ rest := by
  unfold takeLine at h
  split at h
  · cases h
  · next t r ht =>
    split at h
    · cases h
    · next hb =>
      cases h
      rw [of_takeTag ht, of_takeByte hb]
      cases t <;> rfl

theorem of_takePosition {bs rest : List Byte} {pos : KeyPlace} (h : takePosition bs = .ok (pos, rest)) :
    bs = positionByte pos :: rest := by
  have hbyte : ∀ b : Byte, b.toNat < 16 → positionByte ⟨b.setWidth 3, b.getLsbD 3⟩ = b := by decide
  unfold takePosition at h
  split at h
  · cases h
  · next hb =>
    split_ifs at h with hlt
    cases h
    rw [of_takeByte hb, hbyte _ hlt]

theorem of_takeTwo {α β : Type} {first : List Byte → Parsed α} {second : List Byte → Parsed β} {bs rest : List Byte}
    {a : α} {b : β} (h : takeTwo first second bs = .ok ((a, b), rest)) :
    ∃ mid, first bs = .ok (a, mid) ∧ second mid = .ok (b, rest) := by
  unfold takeTwo at h
  split at h
  · cases h
  · next mid hf =>
    split at h
    · cases h
    · next hs =>
      cases h
      exact ⟨mid, hf, hs⟩

theorem of_operandOf {α : Type} {f : α → Instr} {p : Parsed α} {i : Instr} {rest : List Byte}
    (h : operandOf f p = .ok (i, rest)) : ∃ a, p = .ok (a, rest) ∧ f a = i := by
  cases p with
  | error e => cases h
  | ok p => cases h; exact ⟨p.1, rfl, rfl⟩

theorem of_wordOrError {f : Format} {w : Byte} {row : Option Instr} {bs rest : List Byte} {i : Instr}
    (h : wordOrError f w row bs = .ok (i, rest)) : row = some i ∧ bs = rest := by
  cases row with
  | none => cases h
  | some j => cases h; exact ⟨rfl, rfl⟩

/-! Decoding what was encoded. -/

theorem decode_keyBytes (k : Byte) (pos : KeyPlace) (rest : List Byte) :
    decode .keycode ((keyBytes k pos).2 ++ rest) = .ok (keycodeRow k pos, rest) := by
  simp [keyBytes, decode, takePosition_positionByte, operandOf]

theorem decode_cmd_of_row {c : Byte} {i : Instr} (h : commandRow c = some i) (rest : List Byte) :
    decode .cmd (c :: rest) = .ok (i, rest) := by
  simp [decode, wordOrError, h]

theorem decode_bus_of_row {w : Byte} {i : Instr} (h : busRow w = some i) (rest : List Byte) :
    decode .bus (w :: rest) = .ok (i, rest) := by
  simp [decode, wordOrError, h]

theorem takeTwo_of {α β : Type} {first : List Byte → Parsed α} {second : List Byte → Parsed β} {bs mid rest : List Byte}
    {a : α} {b : β} (hf : first bs = .ok (a, mid)) (hs : second mid = .ok (b, rest)) :
    takeTwo first second bs = .ok ((a, b), rest) := by
  simp [takeTwo, hf, hs]

theorem takeByte_cons (b : Byte) (rest : List Byte) : takeByte (b :: rest) = .ok (b, rest) := rfl

/-- Settles O7: each operand is read back by the lemma about its layout. -/
theorem decodeOfEncodeIsTheInstruction : Obligations.DecodeOfEncodeIsTheInstruction := by
  intro i rest hcan
  cases i with
  | lookup k => rfl
  | decodeFrame f => exact congrArg (operandOf .decodeFrame) (takeBlock_blockBytes f rest)
  | decodeScan bs => exact congrArg (operandOf .decodeScan) (takeSeq_seqBytes bs rest)
  | writeNibble n m => exact congrArg (operandOf _) (takeTwo_of (takeByte_cons n _) (takeMode_modeByte m rest))
  | writeByte v m => exact congrArg (operandOf _) (takeTwo_of (takeByte_cons v _) (takeMode_modeByte m rest))
  | init => rfl
  | writeString t l =>
    exact congrArg (operandOf _) ((congrArg _ (List.append_assoc ..)).trans
      (takeTwo_of (takeLine_lineBytes l _) (takeSeq_seqBytes t rest)))
  | defineGlyph slot bm => exact congrArg (operandOf _) (takeTwo_of (takeByte_cons slot _) (takeBlock_blockBytes bm rest))
  | showProduct t p =>
    exact congrArg (operandOf _) ((congrArg _ (List.append_assoc ..)).trans
      (takeTwo_of (takeSeq_seqBytes t _) (takeSeq_seqBytes p rest)))
  | showNotFound => rfl
  | opUnassignedA => rfl
  | opUnassignedB => rfl
  | opUnassignedC => rfl
  | opUnassignedD => rfl
  | opUnassignedE => rfl
  | opUnassignedF => rfl
  | keyUnknown k pos => exact (decode_keyBytes k pos rest).trans (by rw [keycodeRow_of_unknownOk pos hcan])
  | init33 | init32 | init06 | init0C | init28 | init01 => exact decode_cmd_of_row rfl rest
  | lineAddr0 | lineAddr1 | lineAddr2 | lineAddr3 => exact decode_cmd_of_row rfl rest
  | cgramAddr s => exact decode_cmd_of_row (commandRow_cgramAddr s) rest
  | char c => rfl
  | busSetup n b m => exact decode_bus_of_row (busRow_busWord n b false m) rest
  | busStrobe n b m => exact decode_bus_of_row (busRow_busWord n b true m) rest
  | _ => exact decode_keyBytes _ _ rest

/-! Encoding what was decoded. -/

/-- An instruction read after an OP code is the one this code and these operands encode. -/
theorem encode_of_decodeOp {op : Byte} {bs rest : List Byte} {i : Instr} (h : decodeOp op bs = .ok (i, rest)) :
    i.canonical = true ∧ (encode i).1 = .op ∧ op :: bs = (encode i).2 ++ rest := by
  unfold decodeOp at h
  split at h
  case h_17 => cases h
  all_goals
    rename_i hop
    obtain rfl := eq_ofNat_of_toNat_eq hop
  case h_6 | h_10 | h_11 | h_12 | h_13 | h_14 | h_15 | h_16 => cases h; exact ⟨rfl, rfl, rfl⟩
  all_goals
    obtain ⟨a, ha, rfl⟩ := of_operandOf h
    refine ⟨rfl, rfl, ?_⟩
  case h_1 => rw [of_takeByte ha]; rfl
  case h_2 => rw [of_takeBlock ha]; rfl
  case h_3 => rw [of_takeSeq _ ha]; rfl
  all_goals obtain ⟨mid, h1, h2⟩ := of_takeTwo ha
  case h_4 => rw [of_takeByte h1, of_takeMode h2]; rfl
  case h_5 => rw [of_takeByte h1, of_takeMode h2]; rfl
  case h_7 => rw [of_takeLine h1, of_takeSeq _ h2]; simp [encode]
  case h_8 => rw [of_takeByte h1, of_takeBlock h2]; rfl
  case h_9 => rw [of_takeSeq _ h1, of_takeSeq _ h2]; simp [encode]

/-- Settles O8: format by format, what was read is the encoding of what it was read as. -/
theorem decodedInstructionsAreCanonical : Obligations.DecodedInstructionsAreCanonical := by
  intro fmt bytes rest i h
  cases bytes with
  | nil => cases h
  | cons w bs =>
    cases fmt with
    | op => exact encode_of_decodeOp h
    | keycode =>
      obtain ⟨pos, hpos, rfl⟩ := of_operandOf h
      refine ⟨keycodeRow_canonical w pos, ?_⟩
      rw [encode_keycodeRow, of_takePosition hpos]
      exact ⟨rfl, rfl⟩
    | cmd =>
      obtain ⟨hrow, rfl⟩ := of_wordOrError h
      obtain ⟨hcan, henc⟩ := encode_commandRow hrow
      rw [henc]
      exact ⟨hcan, rfl, rfl⟩
    | chr => cases h; exact ⟨rfl, rfl, rfl⟩
    | bus =>
      obtain ⟨hrow, rfl⟩ := of_wordOrError h
      obtain ⟨hcan, henc⟩ := encode_busRow hrow
      rw [henc]
      exact ⟨hcan, rfl, rfl⟩

/-! Words without a row. -/

theorem commandRow_eq_none : ∀ w : Byte, w ∉ Machine.commandWords → commandRow w = none := by decide

theorem busRow_eq_none {w : Byte} (h : w.getLsbD 1 = true) : busRow w = none := if_pos h

theorem decodeOp_eq_error {w : Byte} (h : 16 ≤ w.toNat) (bs : List Byte) :
    decodeOp w bs = .error (.noSuchRow .op w) := by
  unfold decodeOp
  split
  case h_17 => rfl
  all_goals omega

/-- Settles O9. -/
theorem wordsWithoutARowAreRefused : Obligations.WordsWithoutARowAreRefused := by
  intro w bs
  refine ⟨fun h => ?_, fun h => ?_, fun h => decodeOp_eq_error h bs⟩
  · simp [decode, wordOrError, commandRow_eq_none w h]
  · simp [decode, wordOrError, busRow_eq_none h]

/-- Settles O10, by running the decoder on each word. -/
theorem specWordsDecode : Obligations.SpecWordsDecode := by
  unfold Obligations.SpecWordsDecode
  decide

end Sys2Proof

/-! The decoder by index: DECODE_FRAME and DECODE_SCAN compute what the statements say of the bytes of a frame and of an input
(40_scancode_table.md, 41_hid_decoder.md). -/

namespace Sys2Proof.Machine

/-! The table. -/

/-- With unique keys a row of the table is the one that is found. -/
theorem sctEntry_of_mem {sct : List KeycodeEntry} (hu : UniqueKeys sct) {e : KeycodeEntry} (he : e ∈ sct) :
    sctEntry sct e.keycode = some e := by
  cases h : sctEntry sct e.keycode with
  | none => exact absurd rfl (sctEntry_none.mp h e he)
  | some e' =>
    obtain ⟨hmem, hkey⟩ := sctEntry_some h
    exact congrArg some (List.inj_on_of_nodup_map hu hmem he hkey)

theorem exec_lookup (k : Byte) {s : State} (h : s.inProgress = false) :
    exec (.lookup k) s =
      .next (afterDecoder s s.frame s.shift 0 (.lookup ((sctEntry s.cfg.sct k).map (fun e => (e.plain, e.shifted))))) :=
  accept_idle (run := fun s1 : State =>
    s1.finish (.lookup ((sctEntry s1.cfg.sct k).map (fun e : KeycodeEntry => (e.plain, e.shifted))))) h

/-- Settles O16: the search finds the one row of the keycode, or none. -/
theorem lookupReturnsTheEntry : Obligations.LookupReturnsTheEntry := by
  refine ⟨fun k s hidle hu => ⟨?_, fun hnone => ?_⟩, fun s hidle hsct => ?_⟩
  · rintro e he rfl
    rw [exec_lookup _ hidle, sctEntry_of_mem hu he]; rfl
  · rw [exec_lookup _ hidle, sctEntry_none.mpr hnone]; rfl
  · simp [returned, exec_lookup _ hidle, hsct, afterDecoder]
    decide

/-! Frames of a list of bytes. -/

theorem exists_frame {frame : List Byte} (h : frame.length = 8) : ∃ f : Frame, f.toBytes = frame := by
  match frame, h with
  | [b0, b1, b2, b3, b4, b5, b6, b7], _ => exact ⟨⟨b0, b1, b2, b3, b4, b5, b6, b7⟩, rfl⟩

@[simp] theorem Frame.length_toBytes (f : Frame) : f.toBytes.length = 8 := rfl

/-- The bytes of some frames, one after another. -/
def bytesOf (fs : List Frame) : List Byte := fs.flatMap Frame.toBytes

@[simp] theorem bytesOf_nil : bytesOf [] = [] := rfl

@[simp] theorem bytesOf_cons (f : Frame) (fs : List Frame) : bytesOf (f :: fs) = f.toBytes ++ bytesOf fs := rfl

@[simp] theorem bytesOf_append (fs gs : List Frame) : bytesOf (fs ++ gs) = bytesOf fs ++ bytesOf gs := by
  simp [bytesOf]

@[simp] theorem length_bytesOf (fs : List Frame) : (bytesOf fs).length = 8 * fs.length := by
  induction fs with
  | nil => rfl
  | cons f fs ih => simp [ih]; omega

@[simp] theorem framesOf_bytesOf (fs : List Frame) : framesOf (bytesOf fs) = fs := by
  induction fs with
  | nil => rfl
  | cons f fs ih => exact congrArg (f :: ·) ih

/-- An input of whole frames is the bytes of its frames. -/
theorem exists_bytesOf (n : Nat) : ∀ {bytes : List Byte}, bytes.length = 8 * n → ∃ fs, bytesOf fs = bytes := by
  induction n with
  | zero => intro bytes h; exact ⟨[], (List.length_eq_zero_iff.mp h).symm⟩
  | succ n ih =>
    intro bytes h
    obtain ⟨f, hf⟩ := exists_frame (frame := bytes.take 8) (by simp; omega)
    obtain ⟨fs, hfs⟩ := ih (bytes := bytes.drop 8) (by simp; omega)
    exact ⟨f :: fs, by rw [bytesOf_cons, hf, hfs, List.take_append_drop]⟩

theorem exists_bytesOf_of_mod {bytes : List Byte} (h : bytes.length % 8 = 0) : ∃ fs, bytesOf fs = bytes :=
  exists_bytesOf (bytes.length / 8) (by omega)

/-! DECODE_FRAME. -/

/-- A loaded frame is decoded to its meaning. -/
theorem State.decodeLoaded_eq_frameMeaning (f : Frame) (s : State) :
    (s.loadFrame f).decodeLoaded = frameMeaning s.cfg.sct f.toBytes := by
  unfold frameMeaning
  rw [← remaining_head?_eq_find?]
  cases h : (remaining f).head? with
  | none => exact State.decodeLoaded_of_nothing_left s (List.head?_eq_none_iff.mp h)
  | some k =>
    rw [State.decodeLoaded_of_first_left s h, decodeKey, sctEntry_eq_find]
    cases hrow : s.cfg.sct.find? (fun e => e.keycode == k) with
    | none => simp only [hrow]
    | some e => simp [hrow, selectChar, Frame.toBytes]

/-- What DECODE_FRAME leaves of an idle core. -/
theorem State.decodeFrame_started (f : Frame) (s : State) :
    s.started.decodeFrame f = afterDecoder s f (shiftFlag f.mod) 0
      (.frame (frameMeaning s.cfg.sct f.toBytes).1 (frameMeaning s.cfg.sct f.toBytes).2) := by
  rw [State.decodeFrame, State.decodeLoaded_eq_frameMeaning]; rfl

/-- Settles O19. -/
theorem decodeFrameDecodesTheFirstRemainingByte : Obligations.DecodeFrameDecodesTheFirstRemainingByte := by
  intro s b0 b1 b2 b3 b4 b5 b6 b7 hidle frame
  let f : Frame := ⟨b0, b1, b2, b3, b4, b5, b6, b7⟩
  exact (exec_decodeFrame_toBytes f hidle).trans (congrArg _ (State.decodeFrame_started f s))

/-- Settles O17. -/
theorem shiftIsTheWholeByteEqualToTheMarker : Obligations.ShiftIsTheWholeByteEqualToTheMarker := by
  intro s b0 b1 b2 b3 b4 b5 b6 b7 hidle
  let f : Frame := ⟨b0, b1, b2, b3, b4, b5, b6, b7⟩
  exact ⟨_, exec_decodeFrame_toBytes f hidle, by simp [f, shiftFlag_eq_decide]⟩

theorem returned_decodeFrame {frame : List Byte} {s : State} (hidle : s.inProgress = false) (h : frame.length = 8) :
    returned (.decodeFrame frame) s =
      some (.frame (frameMeaning s.cfg.sct frame).1 (frameMeaning s.cfg.sct frame).2) := by
  obtain ⟨f, rfl⟩ := exists_frame h
  rw [returned_decodeFrame_toBytes f hidle, State.decodeLoaded_eq_frameMeaning, State.started_cfg]

/-! The meaning of a frame. -/

/-- The meaning of a frame depends on its first remaining byte and on whether byte 0 is the marker. -/
theorem frameMeaning_congr (sct : List KeycodeEntry) {f g : List Byte}
    (hfirst : f.find? (fun b => decide (b ≠ 0x00#8 ∧ b ≠ 0x02#8)) = g.find? (fun b => decide (b ≠ 0x00#8 ∧ b ≠ 0x02#8)))
    (hshift : f.head? = some 0x02#8 ↔ g.head? = some 0x02#8) : frameMeaning sct f = frameMeaning sct g := by
  simp only [frameMeaning, hfirst, hshift]

theorem frameMeaning_of_filtered (sct : List KeycodeEntry) {frame : List Byte} (h : ∀ b ∈ frame, b = 0x00 ∨ b = 0x02) :
    frameMeaning sct frame = (.empty, none) := by
  have hnone : frame.find? (fun b => decide (b ≠ 0x00#8 ∧ b ≠ 0x02#8)) = none :=
    List.find?_eq_none.mpr (fun b hb => by rcases h b hb with rfl | rfl <;> decide)
  simp only [frameMeaning, hnone]

/-- A frame gives nothing, a LookupFailure, or a character. -/
theorem frameMeaning_cases (sct : List KeycodeEntry) (frame : List Byte) :
    frameMeaning sct frame = (.empty, none) ∨ (∃ k, frameMeaning sct frame = (.empty, some k)) ∨
      ∃ c, frameMeaning sct frame = (.char c, none) := by
  unfold frameMeaning
  split
  · exact .inl rfl
  · split
    · exact .inr (.inl ⟨_, rfl⟩)
    · exact .inr (.inr ⟨_, rfl⟩)

section FirstByte

variable {sct : List KeycodeEntry} {frame : List Byte} {k : Byte}
  (hfirst : frame.find? (fun b => decide (b ≠ 0x00#8 ∧ b ≠ 0x02#8)) = some k)
include hfirst

theorem frameMeaning_of_no_row (h : ∀ e ∈ sct, e.keycode ≠ k) : frameMeaning sct frame = (.empty, some k) := by
  have hnone : sct.find? (fun e => e.keycode == k) = none := by simpa using h
  simp only [frameMeaning, hfirst, hnone]

theorem frameMeaning_of_row (hu : UniqueKeys sct) {e : KeycodeEntry} (he : e ∈ sct) (hk : e.keycode = k) :
    frameMeaning sct frame = (.char (if frame.head? = some 0x02#8 then e.shifted else e.plain), none) := by
  subst hk
  have hsome : sct.find? (fun e' => e'.keycode == e.keycode) = some e := by
    rw [← sctEntry_eq_find, sctEntry_of_mem hu he]
  simp only [frameMeaning, hfirst, hsome]

end FirstByte

theorem find?_single_keycode (m : Byte) {k : Byte} (hm : m = 0x00 ∨ m = 0x02) (h0 : k ≠ 0x00) (h2 : k ≠ 0x02) :
    [m, 0, k, 0, 0, 0, 0, 0].find? (fun b => decide (b ≠ 0x00#8 ∧ b ≠ 0x02#8)) = some k := by
  rcases hm with rfl | rfl <;> simp_all

/-- Settles O20, clause by clause from the meaning of a frame. -/
theorem decodeFrameLaws : Obligations.DecodeFrameLaws := by
  intro s hidle
  refine ⟨fun frame hlen h => ?_, fun f g hf hg hshift hfirst => ?_, fun e he hu h0 h2 => ⟨?_, ?_⟩⟩
  · rw [returned_decodeFrame hidle hlen, frameMeaning_of_filtered _ h]
  · rw [List.head?_filter, List.head?_filter] at hfirst
    rw [returned_decodeFrame hidle hf, returned_decodeFrame hidle hg, frameMeaning_congr _ hfirst hshift]
  · rw [returned_decodeFrame hidle rfl, frameMeaning_of_row (find?_single_keycode 0 (.inl rfl) h0 h2) hu he rfl]
    rfl
  · rw [returned_decodeFrame hidle rfl, frameMeaning_of_row (find?_single_keycode 2 (.inr rfl) h0 h2) hu he rfl]
    rfl

/-- Settles O22: constraints (a), (b) and (h) give the two rows. -/
theorem admissibleTablesDecodeTheAnchors : Obligations.AdmissibleTablesDecodeTheAnchors := by
  intro s hidle hadm
  obtain ⟨e4, h4, hk4, hp4⟩ := hadm.keyFour
  obtain ⟨e5, h5, hk5, hs5⟩ := hadm.keyFive
  constructor
  · rw [returned_decodeFrame hidle rfl, frameMeaning_of_row (k := 4) rfl hadm.unique h4 hk4, ← hp4]
    rfl
  · rw [returned_decodeFrame hidle rfl, frameMeaning_of_row (k := 5) rfl hadm.unique h5 hk5, ← hs5]
    rfl

/-! The KEYCODE rows. -/

/-- A KEYCODE row is accepted in every state as DECODE_FRAME of its frame (Log 2). -/
theorem exec_keycodeRow (k : Byte) (pos : KeyPlace) (s : State) :
    exec (keycodeRow k pos) s = accept none (State.decodeFrame (keyFrame k pos)) s := by
  unfold keycodeRow
  split
  case h_57 => rfl
  all_goals
    rename_i hk
    obtain rfl := eq_ofNat_of_toNat_eq hk
    rfl

/-- Every row of the default table has the instruction of its keycode. -/
theorem keyRows_instr : ∀ r ∈ keyRows, r.instr = keycodeRow r.keycode :=
  List.map_inj_left.mp (show keyRows.map (fun r => r.instr) = keyRows.map (fun r => keycodeRow r.keycode) from rfl)

theorem keyRows_mem_sctDefault {r : KeyRow} (h : r ∈ keyRows) : ⟨r.keycode, r.plain, r.shifted⟩ ∈ sctDefault := by
  have hrows : sctDefault = keyRows.map (fun r => ⟨r.keycode, r.plain, r.shifted⟩) := rfl
  rw [hrows]
  exact List.mem_map_of_mem (f := fun r : KeyRow => (⟨r.keycode, r.plain, r.shifted⟩ : KeycodeEntry)) h

theorem keyRows_not_filtered : ∀ r ∈ keyRows, r.keycode ≠ 0x00 ∧ r.keycode ≠ 0x02 := by decide

/-! The frame of a KEYCODE row. -/

theorem mem_keyFrameBytes {k b : Byte} {pos : BitVec 3} {shifted : Bool} (h : b ∈ keyFrameBytes k pos shifted) :
    b = k ∨ b = 0x00 ∨ b = 0x02 := by
  rcases List.mem_or_eq_of_mem_set h with h | rfl
  · rcases List.mem_or_eq_of_mem_set h with h | rfl
    · exact .inr (.inl (List.eq_of_mem_replicate h))
    · cases shifted <;> simp
  · exact .inl rfl

/-- The keycode of a KEYCODE row is the one byte of its frame that the filter leaves. -/
theorem find?_keyFrameBytes {k : Byte} (pos : BitVec 3) (shifted : Bool) (h0 : k ≠ 0x00) (h2 : k ≠ 0x02) :
    (keyFrameBytes k pos shifted).find? (fun b => decide (b ≠ 0x00#8 ∧ b ≠ 0x02#8)) = some k := by
  have hmem : k ∈ keyFrameBytes k pos shifted := List.mem_set (by simpa using pos.isLt) k
  cases h : (keyFrameBytes k pos shifted).find? (fun b => decide (b ≠ 0x00#8 ∧ b ≠ 0x02#8)) with
  | none => exact absurd (decide_eq_true ⟨h0, h2⟩) (List.find?_eq_none.mp h k hmem)
  | some b =>
    have hleft : b ≠ 0x00 ∧ b ≠ 0x02 := by simpa using List.find?_some h
    rcases mem_keyFrameBytes (List.mem_of_find?_eq_some h) with hb | hb | hb
    · rw [hb]
    · exact absurd hb hleft.1
    · exact absurd hb hleft.2

/-- Byte 0 of the frame of a KEYCODE row. -/
theorem keyFrame_mod (k : Byte) (pos : BitVec 3) (shifted : Bool) :
    (keyFrame k ⟨pos, shifted⟩).mod = if pos = 0 then k else if shifted then 0x02 else 0x00 := rfl

theorem head?_keyFrameBytes (k : Byte) (pos : BitVec 3) (shifted : Bool) :
    (keyFrameBytes k pos shifted).head? = some (if pos = 0 then k else if shifted then 0x02 else 0x00) := by
  rw [← keyFrame_toBytes]; rfl

/-- A keycode other than the marker leaves SHIFT to the marker operand, which at position 0 has nothing to stand in. -/
theorem shiftFlag_keyFrame {k : Byte} (pos : BitVec 3) (shifted : Bool) (h2 : k ≠ 0x02) :
    shiftFlag (keyFrame k ⟨pos, shifted⟩).mod = (decide (pos ≠ 0) && shifted) := by
  rw [shiftFlag_eq_decide, keyFrame_mod]
  by_cases hp : pos = 0 <;> cases shifted <;> simp_all

theorem shiftFlag_keyFrame_marker (pos : BitVec 3) (shifted : Bool) :
    shiftFlag (keyFrame 0x02 ⟨pos, shifted⟩).mod = (decide (pos = 0) || shifted) := by
  rw [shiftFlag_eq_decide, keyFrame_mod]
  by_cases hp : pos = 0 <;> cases shifted <;> simp_all

theorem head?_keyFrameBytes_eq_marker {k : Byte} (pos : BitVec 3) (shifted : Bool) (h2 : k ≠ 0x02) :
    (keyFrameBytes k pos shifted).head? = some 0x02#8 ↔ pos ≠ 0 ∧ shifted = true := by
  rw [head?_keyFrameBytes]
  by_cases hp : pos = 0 <;> cases shifted <;> simp_all

section Rows

variable {k : Byte} {pos : BitVec 3} {shifted : Bool} {s : State} (hidle : s.inProgress = false)
include hidle

/-- What an accepted KEYCODE row leaves. -/
theorem accept_keyFrame : accept none (State.decodeFrame (keyFrame k ⟨pos, shifted⟩)) s =
    .next (afterDecoder s (keyFrame k ⟨pos, shifted⟩) (shiftFlag (keyFrame k ⟨pos, shifted⟩).mod) 0
      (.frame (frameMeaning s.cfg.sct (keyFrameBytes k pos shifted)).1
        (frameMeaning s.cfg.sct (keyFrameBytes k pos shifted)).2)) := by
  rw [accept_idle hidle, State.decodeFrame_started, keyFrame_toBytes]

theorem accept_keyFrame_of_row (h0 : k ≠ 0x00) (h2 : k ≠ 0x02) (hu : UniqueKeys s.cfg.sct) {e : KeycodeEntry}
    (he : e ∈ s.cfg.sct) (hk : e.keycode = k) : accept none (State.decodeFrame (keyFrame k ⟨pos, shifted⟩)) s =
      .next (afterDecoder s (keyFrame k ⟨pos, shifted⟩) (decide (pos ≠ 0) && shifted) 0
        (.frame (.char (if pos ≠ 0 ∧ shifted = true then e.shifted else e.plain)) none)) := by
  rw [accept_keyFrame hidle, frameMeaning_of_row (find?_keyFrameBytes pos shifted h0 h2) hu he hk,
    shiftFlag_keyFrame pos shifted h2]
  simp only [head?_keyFrameBytes_eq_marker pos shifted h2]

theorem accept_keyFrame_of_no_row (h0 : k ≠ 0x00) (h2 : k ≠ 0x02) (h : ∀ e ∈ s.cfg.sct, e.keycode ≠ k) :
    accept none (State.decodeFrame (keyFrame k ⟨pos, shifted⟩)) s =
      .next (afterDecoder s (keyFrame k ⟨pos, shifted⟩) (decide (pos ≠ 0) && shifted) 0 (.frame .empty (some k))) := by
  rw [accept_keyFrame hidle, frameMeaning_of_no_row (find?_keyFrameBytes pos shifted h0 h2) h,
    shiftFlag_keyFrame pos shifted h2]

theorem accept_keyFrame_of_filtered (h : k = 0x00 ∨ k = 0x02) :
    accept none (State.decodeFrame (keyFrame k ⟨pos, shifted⟩)) s =
      .next (afterDecoder s (keyFrame k ⟨pos, shifted⟩) (shiftFlag (keyFrame k ⟨pos, shifted⟩).mod) 0
        (.frame .empty none)) := by
  rw [accept_keyFrame hidle, frameMeaning_of_filtered _ (fun b hb => by
    rcases mem_keyFrameBytes hb with rfl | hb
    · exact h
    · exact hb)]

end Rows

/-- Settles O23: each row is its keycode's row, and the default table has its columns. -/
theorem keycodeRowsGiveTheirCharacters : Obligations.KeycodeRowsGiveTheirCharacters := by
  intro r hr pos shifted s hidle hsct
  obtain ⟨h0, h2⟩ := keyRows_not_filtered r hr
  refine ⟨keyFrame r.keycode ⟨pos, shifted⟩, keyFrame_toBytes r.keycode pos shifted, ?_⟩
  rw [keyRows_instr r hr, exec_keycodeRow]
  exact accept_keyFrame_of_row (e := ⟨r.keycode, r.plain, r.shifted⟩) hidle h0 h2 (hsct ▸ sctDefault_admissible.unique)
    (hsct ▸ keyRows_mem_sctDefault hr) rfl

/-- Settles O24. -/
theorem filteredAndUnknownKeycodes : Obligations.FilteredAndUnknownKeycodes := by
  intro pos shifted s hidle
  refine ⟨⟨_, keyFrame_toBytes 0x00 pos shifted, ?_⟩, ⟨_, keyFrame_toBytes 0x02 pos shifted, ?_⟩,
    fun k h0 h2 => ⟨_, keyFrame_toBytes k pos shifted, fun hno => ?_, fun e he hu hk => ?_⟩⟩
  · rw [← shiftFlag_keyFrame (k := 0x00) pos shifted (by decide)]
    exact accept_keyFrame_of_filtered hidle (.inl rfl)
  · rw [← shiftFlag_keyFrame_marker]
    exact accept_keyFrame_of_filtered hidle (.inr rfl)
  · exact accept_keyFrame_of_no_row hidle h0 h2 hno
  · exact accept_keyFrame_of_row hidle h0 h2 hu he hk

/-- The first byte of a frame that is not filtered, found by its position. -/
theorem find?_of_position {frame : List Byte} {k : Byte} {n : Nat} (hk : frame[n]? = some k) (h0 : k ≠ 0x00)
    (h2 : k ≠ 0x02) (hbefore : ∀ j, j < n → frame[j]? = some 0x00 ∨ frame[j]? = some 0x02) :
    frame.find? (fun b => decide (b ≠ 0x00#8 ∧ b ≠ 0x02#8)) = some k := by
  obtain ⟨hn, hget⟩ := List.getElem?_eq_some_iff.mp hk
  refine List.find?_eq_some_iff_getElem.mpr ⟨decide_eq_true ⟨h0, h2⟩, n, hn, hget, fun j hj => ?_⟩
  have hb := hbefore j hj
  rw [List.getElem?_eq_getElem (by omega)] at hb
  rcases hb with hb | hb <;> simp_all

/-- Settles O25: a row is DECODE_FRAME of its frame, and a frame has the meaning of the frame of its first remaining byte. -/
theorem keycodeWordsRefineDecodeFrame : Obligations.KeycodeWordsRefineDecodeFrame := by
  have hrefine : ∀ (k : Byte) (pos : BitVec 3) (shifted : Bool) (s : State),
      exec (keycodeRow k ⟨pos, shifted⟩) s = exec (.decodeFrame (keyFrameBytes k pos shifted)) s := by
    intro k pos shifted s
    rw [exec_keycodeRow, ← keyFrame_toBytes]; rfl
  refine ⟨hrefine, fun s frame pos k hidle hlen hk h0 h2 hbefore => ?_⟩
  have hmean : frameMeaning s.cfg.sct (keyFrameBytes k pos (decide (frame.head? = some 0x02#8))) =
      frameMeaning s.cfg.sct frame := by
    refine frameMeaning_congr _ ?_ ?_
    · rw [find?_keyFrameBytes pos _ h0 h2, find?_of_position hk h0 h2 hbefore]
    · rw [head?_keyFrameBytes_eq_marker pos _ h2, decide_eq_true_iff]
      refine and_iff_right_of_imp (fun hhead hpos => h2 ?_)
      subst hpos
      rw [List.head?_eq_getElem?] at hhead
      exact Option.some_inj.mp (hk.symm.trans hhead)
  rw [returned, hrefine, ← returned, returned_decodeFrame hidle hlen, returned_decodeFrame hidle (by simp [keyFrameBytes]),
    hmean]

/-! The frames of an input, by index. -/

theorem frameAt_append_left {a : List Byte} (b : List Byte) {i : Nat} (h : i < a.length / 8) :
    frameAt (a ++ b) i = frameAt a i := by
  unfold frameAt
  rw [List.drop_append_of_le_length (by omega), List.take_append_of_le_length (by simp; omega)]

theorem frameAt_append_right {a : List Byte} (b : List Byte) (i : Nat) (h : a.length % 8 = 0) :
    frameAt (a ++ b) (a.length / 8 + i) = frameAt b i := by
  unfold frameAt
  rw [show 8 * (a.length / 8 + i) = a.length + 8 * i by omega, List.drop_append, List.drop_eq_nil_of_le (by omega)]
  simp

/-- What is gathered frame by frame from `a ++ b` is gathered from `a` and, the frames counted on, from `b`. -/
theorem filterMap_frames_append {α : Type} (g : Nat → List Byte → Option α) {a : List Byte} (b : List Byte)
    (h : a.length % 8 = 0) :
    (List.range ((a ++ b).length / 8)).filterMap (fun i => g i (frameAt (a ++ b) i)) =
      (List.range (a.length / 8)).filterMap (fun i => g i (frameAt a i)) ++
        (List.range (b.length / 8)).filterMap (fun i => g (a.length / 8 + i) (frameAt b i)) := by
  have hlen : (a ++ b).length / 8 = a.length / 8 + b.length / 8 := by rw [List.length_append]; omega
  rw [hlen, List.range_add, List.filterMap_append, List.filterMap_map]
  congr 1
  · exact List.filterMap_congr (fun i hi => by rw [frameAt_append_left b (List.mem_range.mp hi)])
  · exact List.filterMap_congr (fun i _ => by simp only [Function.comp, frameAt_append_right b i h])

/-- A frame's value as the characters it contributes to RESULT. -/
def FrameValue.chars : FrameValue → List Byte
  | .empty => []
  | .char c => [c]

theorem scanChars_append (sct : List KeycodeEntry) {a : List Byte} (b : List Byte) (h : a.length % 8 = 0) :
    scanChars sct (a ++ b) = scanChars sct a ++ scanChars sct b :=
  filterMap_frames_append (fun _ frame => match (frameMeaning sct frame).1 with
    | .char c => some c
    | .empty => none) b h

/-- A report with its frame index counted on. -/
def laterReport (n : Nat) (r : Nat × Byte) : Nat × Byte := (n + r.1, r.2)

theorem scanReports_append (sct : List KeycodeEntry) {a : List Byte} (b : List Byte) (h : a.length % 8 = 0) :
    scanReports sct (a ++ b) = scanReports sct a ++ (scanReports sct b).map (laterReport (a.length / 8)) := by
  unfold scanReports
  rw [filterMap_frames_append (fun i frame => (frameMeaning sct frame).2.map (fun k => (i, k))) b h, List.map_filterMap]
  simp only [Option.map_map]
  rfl

theorem scanChars_frame (sct : List KeycodeEntry) (f : Frame) :
    scanChars sct f.toBytes = (frameMeaning sct f.toBytes).1.chars := by
  have hat : frameAt f.toBytes 0 = f.toBytes := rfl
  cases h : (frameMeaning sct f.toBytes).1 <;> simp [scanChars, List.range_succ, hat, h, FrameValue.chars]

theorem scanReports_frame (sct : List KeycodeEntry) (f : Frame) :
    scanReports sct f.toBytes = frameReport 0 (frameMeaning sct f.toBytes).2 := by
  have hat : frameAt f.toBytes 0 = f.toBytes := rfl
  cases h : (frameMeaning sct f.toBytes).2 <;> simp [scanReports, List.range_succ, hat, h, frameReport]

/-! DECODE_SCAN. -/

theorem State.appendResult_result (v : FrameValue) (s : State) : (s.appendResult v).result = s.result ++ v.chars := by
  cases v <;> simp [FrameValue.chars]

/-- The loop of DECODE_SCAN, all at once: RESULT and the reports grow by those of the input, FI by the number of frames,
FRAME and SHIFT are those of the last frame, and nothing else changes. -/
theorem scanLoop_eq (fs : List Frame) : ∀ (s : State) (reports : List (Nat × Byte)),
    scanLoop fs s reports =
      ({ s with
          frame := fs.getLast?.getD s.frame
          shift := (fs.getLast?.map (fun f => shiftFlag f.mod)).getD s.shift
          result := s.result ++ scanChars s.cfg.sct (bytesOf fs)
          fi := s.fi + fs.length },
        reports ++ (scanReports s.cfg.sct (bytesOf fs)).map (laterReport s.fi)) := by
  induction fs with
  | nil => intro s reports; simp [scanLoop, scanChars, scanReports]
  | cons f fs ih =>
    intro s reports
    have hchars : scanChars s.cfg.sct (bytesOf (f :: fs)) =
        (frameMeaning s.cfg.sct f.toBytes).1.chars ++ scanChars s.cfg.sct (bytesOf fs) := by
      rw [bytesOf_cons, scanChars_append _ _ (by simp), scanChars_frame]
    have hreports : (scanReports s.cfg.sct (bytesOf (f :: fs))).map (laterReport s.fi) =
        frameReport s.fi (frameMeaning s.cfg.sct f.toBytes).2 ++
          (scanReports s.cfg.sct (bytesOf fs)).map (laterReport (s.fi + 1)) := by
      rw [bytesOf_cons, scanReports_append _ _ (by simp), scanReports_frame, List.map_append, List.map_map]
      congr 1
      · cases (frameMeaning s.cfg.sct f.toBytes).2 <;> rfl
      · exact List.map_congr_left (fun r _ => by simp [laterReport, Nat.add_assoc])
    rw [scanLoop, ih, hchars, hreports, State.decodeLoaded_eq_frameMeaning]
    cases fs <;> simp [State.appendResult_result, Nat.add_comm, Nat.add_left_comm, List.getLast?_cons]

/-- DECODE_SCAN of some frames, once it is accepted. -/
def State.decodeScan (fs : List Frame) (s : State) : State :=
  { s with
    frame := fs.getLast?.getD s.frame
    shift := (fs.getLast?.map (fun f => shiftFlag f.mod)).getD s.shift
    result := []
    fi := s.fi + fs.length
    results := s.results ++ [.scan (scanValue (cutAtSentinel (scanChars s.cfg.sct (bytesOf fs))))
      ((scanReports s.cfg.sct (bytesOf fs)).map (laterReport s.fi))] }

/-- An input of whole frames is accepted in every state as the scan of its frames. -/
theorem exec_decodeScan_bytesOf (fs : List Frame) (s : State) :
    exec (.decodeScan (bytesOf fs)) s = accept none (State.decodeScan fs) s := by
  have hpre : scanPrecondition (bytesOf fs) = none := if_pos (by simp)
  simp only [exec, execDecodeScan, hpre, framesOf_bytesOf]
  congr 1
  funext s
  simp [scanLoop_eq, State.decodeScan, State.finish]

/-- On an idle core the frames are counted from 0. -/
theorem State.decodeScan_started_results (fs : List Frame) (s : State) : (s.started.decodeScan fs).results =
    s.results ++ [.scan (scanValue (cutAtSentinel (scanChars s.cfg.sct (bytesOf fs))))
      (scanReports s.cfg.sct (bytesOf fs))] := by
  have hzero : laterReport 0 = id := funext (fun r => by simp [laterReport])
  simp [State.decodeScan, hzero]

/-! The string before the first newline. -/

theorem take_idxOf_sentinel (chars : List Byte) : chars.take (chars.idxOf 0x0A#8) = cutAtSentinel chars := by
  induction chars with
  | nil => rfl
  | cons c chars ih =>
    by_cases h : c = 0x0A#8
    · simp [cutAtSentinel, sentinel, h]
    · simpa [cutAtSentinel, sentinel, h, List.idxOf_cons_ne _ h] using ih

theorem stringBefore_eq_scanValue (chars : List Byte) : stringBefore chars = scanValue (cutAtSentinel chars) := by
  rw [stringBefore, take_idxOf_sentinel]
  cases cutAtSentinel chars <;> simp [scanValue]

theorem eq_cutAtSentinel_of_str {chars str : List Byte} (h : stringBefore chars = .str str) :
    str = cutAtSentinel chars := by
  rw [stringBefore_eq_scanValue] at h
  cases hcut : cutAtSentinel chars with
  | nil => rw [hcut] at h; cases h
  | cons c cut => rw [hcut] at h; cases h; rfl

theorem cutAtSentinel_append_of_mem {a : List Byte} (b : List Byte) (h : 0x0A#8 ∈ a) :
    cutAtSentinel (a ++ b) = cutAtSentinel a := by
  induction a with
  | nil => cases h
  | cons c a ih =>
    by_cases hc : c = 0x0A#8
    · simp [cutAtSentinel, sentinel, hc]
    · simpa [cutAtSentinel, sentinel, hc] using ih (by simpa [Ne.symm hc] using h)

theorem cutAtSentinel_append_of_not_mem {a : List Byte} (b : List Byte) (h : 0x0A#8 ∉ a) :
    cutAtSentinel (a ++ b) = a ++ cutAtSentinel b :=
  List.takeWhile_append_of_pos (fun c hc => by
    simp only [sentinel, bne_iff_ne]
    rintro rfl
    exact h hc)

theorem not_mem_cutAtSentinel (chars : List Byte) : 0x0A#8 ∉ cutAtSentinel chars := fun h => by
  simpa [sentinel] using List.mem_takeWhile_imp h

section WholeFrames

variable {s : State} {bytes : List Byte} (hidle : s.inProgress = false) (hlen : bytes.length % 8 = 0)
include hidle hlen

/-- DECODE_SCAN returns the string before the first newline and the reports of all frames. -/
theorem returned_decodeScan : returned (.decodeScan bytes) s =
    some (.scan (stringBefore (scanChars s.cfg.sct bytes)) (scanReports s.cfg.sct bytes)) := by
  obtain ⟨fs, rfl⟩ := exists_bytesOf_of_mod hlen
  simp [returned, exec_decodeScan_bytesOf, accept_idle hidle, State.decodeScan_started_results, stringBefore_eq_scanValue]

end WholeFrames

/-- The last frame of an input is the one before its end. -/
theorem frameAt_last (fs : List Frame) (f : Frame) :
    frameAt (bytesOf (fs ++ [f])) fs.length = f.toBytes := by
  simp [frameAt]

/-- Settles O26. -/
theorem decodeScanResult : Obligations.DecodeScanResult := by
  intro s bytes hidle hlen
  obtain ⟨fs, rfl⟩ := exists_bytesOf_of_mod hlen
  refine ⟨s.started.decodeScan fs, (exec_decodeScan_bytesOf fs s).trans (accept_idle hidle), ?_, ?_, rfl, rfl, rfl,
    fun hnil => ?_, fun hne => ?_, rfl, rfl, rfl, rfl, rfl, rfl, rfl, rfl⟩
  · rw [stringBefore_eq_scanValue, State.decodeScan_started_results]
  · simp [State.decodeScan]
  · obtain rfl : fs = [] := (framesOf_bytesOf fs).symm.trans (congrArg framesOf hnil)
    exact ⟨rfl, rfl⟩
  · rcases List.eq_nil_or_concat' fs with rfl | ⟨gs, f, rfl⟩
    · exact absurd rfl hne
    · have hlast : frameAt (bytesOf (gs ++ [f])) ((bytesOf (gs ++ [f])).length / 8 - 1) = f.toBytes := by
        rw [← frameAt_last gs f]; simp
      rw [hlast]
      simp [State.decodeScan, shiftFlag_eq_decide, Frame.toBytes]

/-- Settles O27: the cut string is empty exactly if the characters are none or begin with the newline. -/
theorem noResultExactlyWhenTheCutStringIsEmpty : Obligations.NoResultExactlyWhenTheCutStringIsEmpty := by
  intro s bytes hidle hlen
  obtain ⟨t, hexec, hres, -⟩ := decodeScanResult s bytes hidle hlen
  refine ⟨t, _, _, hexec, hres, ?_, rfl⟩
  rw [stringBefore_eq_scanValue]
  cases scanChars s.cfg.sct bytes with
  | nil => simp [cutAtSentinel, scanValue]
  | cons c chars => by_cases hc : c = 0x0A#8 <;> simp [cutAtSentinel, sentinel, hc, scanValue]

/-! The streaming form. -/

/-- One more frame of the streaming form (41_hid_decoder.md R120). -/
theorem streamScan_append_frame (sct : List KeycodeEntry) (fs : List Frame) (f : Frame) :
    streamScan sct (bytesOf (fs ++ [f])) = streamFrame sct (streamScan sct (bytesOf fs)) fs.length f.toBytes := by
  have hlen : (bytesOf (fs ++ [f])).length / 8 = fs.length + 1 := by simp
  have hfs : (bytesOf fs).length / 8 = fs.length := by simp
  rw [streamScan, hlen, List.range_succ, List.foldl_append, List.foldl_cons, List.foldl_nil, frameAt_last, streamScan, hfs]
  congr 1
  refine List.foldl_ext _ _ _ (fun st i hi => ?_)
  rw [bytesOf_append, frameAt_append_left _ (by simpa using hi)]

/-- After any frames the streaming form holds the cut string, whether a newline came, and the reports. -/
theorem streamScan_eq (sct : List KeycodeEntry) (fs : List Frame) : streamScan sct (bytesOf fs) =
    { result := cutAtSentinel (scanChars sct (bytesOf fs))
      done := decide (0x0A#8 ∈ scanChars sct (bytesOf fs))
      reports := scanReports sct (bytesOf fs) } := by
  induction fs using List.reverseRecOn with
  | nil => rfl
  | append_singleton fs f ih =>
    have hchars : scanChars sct (bytesOf (fs ++ [f])) =
        scanChars sct (bytesOf fs) ++ (frameMeaning sct f.toBytes).1.chars := by
      rw [bytesOf_append, scanChars_append _ _ (by simp), bytesOf_cons, bytesOf_nil, List.append_nil, scanChars_frame]
    have hreports : scanReports sct (bytesOf (fs ++ [f])) =
        scanReports sct (bytesOf fs) ++ frameReport fs.length (frameMeaning sct f.toBytes).2 := by
      rw [bytesOf_append, scanReports_append _ _ (by simp), bytesOf_cons, bytesOf_nil, List.append_nil, scanReports_frame]
      cases (frameMeaning sct f.toBytes).2 <;> simp [frameReport, laterReport]
    rw [streamScan_append_frame, ih, hchars, hreports]
    rcases frameMeaning_cases sct f.toBytes with h | ⟨k, h⟩ | ⟨c, h⟩
    · simp [streamFrame, h, FrameValue.chars, frameReport]
    · simp [streamFrame, h, FrameValue.chars, frameReport]
    · by_cases hdone : 0x0A#8 ∈ scanChars sct (bytesOf fs)
      · simp [streamFrame, h, hdone, FrameValue.chars, frameReport, cutAtSentinel_append_of_mem]
      · have hcut : cutAtSentinel (scanChars sct (bytesOf fs)) = scanChars sct (bytesOf fs) := by
          simpa [cutAtSentinel] using cutAtSentinel_append_of_not_mem [] hdone
        by_cases hc : c = 0x0A#8
        · subst hc
          have hone : cutAtSentinel [0x0A#8] = [] := rfl
          simp [streamFrame, h, hdone, FrameValue.chars, frameReport, cutAtSentinel_append_of_not_mem, hcut, hone]
        · have hone : cutAtSentinel [c] = [c] := by simp [cutAtSentinel, sentinel, hc]
          simp [streamFrame, h, hdone, hc, Ne.symm hc, FrameValue.chars, frameReport, cutAtSentinel_append_of_not_mem, hcut,
            hone]

/-- Settles O28. -/
theorem streamingDecoderAgreesWithDecodeScan : Obligations.StreamingDecoderAgreesWithDecodeScan := by
  intro s bytes hidle hlen
  rw [returned_decodeScan hidle hlen]
  obtain ⟨fs, rfl⟩ := exists_bytesOf_of_mod hlen
  rw [streamScan_eq, stringBefore_eq_scanValue, streamValue]
  cases cutAtSentinel (scanChars s.cfg.sct (bytesOf fs)) <;> simp [scanValue]

/-! The laws of DECODE_SCAN. -/

theorem length_scanChars_le (sct : List KeycodeEntry) (bytes : List Byte) :
    (scanChars sct bytes).length ≤ bytes.length / 8 :=
  (List.length_filterMap_le _ _).trans (by rw [List.length_range])

/-- A frame that gives no character does not change the value of a scan, wherever it stands. -/
theorem scanChars_insert (sct : List KeycodeEntry) {a frame : List Byte} (b : List Byte) (ha : a.length % 8 = 0)
    (hf : frame.length = 8) (h : (frameMeaning sct frame).1 = .empty) :
    scanChars sct (a ++ frame ++ b) = scanChars sct (a ++ b) := by
  obtain ⟨f, rfl⟩ := exists_frame hf
  rw [List.append_assoc, scanChars_append _ _ ha, scanChars_append _ _ (by simp), scanChars_append _ _ ha, scanChars_frame, h]
  rfl

/-- Settles O29. -/
theorem decodeScanLaws : Obligations.DecodeScanLaws := by
  intro s a b hidle ha hb
  have hab : (a ++ b).length % 8 = 0 := by rw [List.length_append]; omega
  have hmid : (a ++ List.replicate 8 0x00#8 ++ b).length % 8 = 0 := by simp; omega
  have hscan := returned_decodeScan hidle hab
  rw [scanChars_append _ _ ha, scanReports_append _ _ ha] at hscan
  have hidleFrame : frameMeaning s.cfg.sct (List.replicate 8 0x00#8) = (.empty, none) :=
    frameMeaning_of_filtered _ (fun b hb => .inl (List.eq_of_mem_replicate hb))
  refine ⟨fun str reports h => ?_, hscan, fun hnl => ?_, ?_⟩
  · rw [returned_decodeScan hidle ha] at h
    have hstr : stringBefore (scanChars s.cfg.sct a) = .str str := by
      injection (Option.some_inj.mp h)
    rw [eq_cutAtSentinel_of_str hstr]
    exact (List.takeWhile_prefix _).length_le.trans (length_scanChars_le _ _)
  · rw [stringBefore_eq_scanValue, cutAtSentinel_append_of_mem _ hnl, ← stringBefore_eq_scanValue] at hscan
    exact ⟨_, _, _, returned_decodeScan hidle ha, hscan⟩
  · have hscan2 := returned_decodeScan hidle hmid
    rw [scanChars_insert _ _ ha (by simp) (by rw [hidleFrame])] at hscan2
    exact ⟨_, _, _, returned_decodeScan hidle hab, hscan2⟩

/-- Settles O21. -/
theorem lookupFailureSkipsTheFrame : Obligations.LookupFailureSkipsTheFrame := by
  refine ⟨fun s hidle => ⟨fun frame k hlen hfirst hno => ⟨?_, fun a b ha hb => ?_⟩, fun frame hlen h => ?_⟩,
    by decide +kernel⟩
  · rw [returned_decodeFrame hidle hlen, frameMeaning_of_no_row hfirst hno]
  · have hmean := frameMeaning_of_no_row hfirst hno
    have hab : (a ++ b).length % 8 = 0 := by rw [List.length_append]; omega
    have hmid : (a ++ frame ++ b).length % 8 = 0 := by simp; omega
    have hscan := returned_decodeScan hidle hmid
    rw [scanChars_insert _ _ ha hlen (by rw [hmean])] at hscan
    refine ⟨_, _, _, returned_decodeScan hidle hab, hscan, ?_⟩
    · obtain ⟨f, rfl⟩ := exists_frame hlen
      rw [List.append_assoc, scanReports_append _ _ ha, scanReports_append _ _ (by simp), scanReports_frame, hmean]
      simp [frameReport, laterReport]
  · rw [returned_decodeFrame hidle hlen, frameMeaning_of_filtered _ h]

end Sys2Proof.Machine

/-! What an instruction is: a job that the core runs once it has accepted the request, of which the driver's are given by the
nibbles they strobe (42_display_driver.md, 43_display_formatter.md). Refusals and the step (60_exceptions.md R174 to R176,
R184), and the core after a reset or a restart. -/

namespace Sys2Proof.Machine

/-! The driver's plans as the nibbles they strobe. -/

/-- The nibbles of a controller byte in a mode, high nibble first (42_display_driver.md R133). -/
def bytePulses (m : Mode) (v : Byte) : List (Nibble × Mode) := [(highNibble v, m), (lowNibble v, m)]

def bytesPulses (m : Mode) (vs : List Byte) : List (Nibble × Mode) := vs.flatMap (bytePulses m)

/-- The nibbles of a line address and its 16 characters (42_display_driver.md R136). -/
def linePulses (address : Byte) (text : List Byte) : List (Nibble × Mode) :=
  bytePulses .command address ++ bytesPulses .character (line16 text)

/-- The calls that send some nibbles. -/
def pulsesPlan (cfg : CoreConfig) (ps : List (Nibble × Mode)) : List Act := ps.flatMap (fun p => nibblePlan cfg p.1 p.2)

theorem pulsesPlan_append (cfg : CoreConfig) (ps qs : List (Nibble × Mode)) :
    pulsesPlan cfg (ps ++ qs) = pulsesPlan cfg ps ++ pulsesPlan cfg qs := List.flatMap_append

theorem nibblePlan_eq_pulsesPlan (cfg : CoreConfig) (n : Nibble) (m : Mode) :
    nibblePlan cfg n m = pulsesPlan cfg [(n, m)] := by
  simp [pulsesPlan]

theorem bytePlan_eq_pulsesPlan (cfg : CoreConfig) (v : Byte) (m : Mode) :
    bytePlan cfg v m = pulsesPlan cfg (bytePulses m v) := by
  simp [bytePlan, pulsesPlan, bytePulses]

theorem bytesPlan_eq_pulsesPlan (cfg : CoreConfig) (m : Mode) (vs : List Byte) :
    bytesPlan cfg m vs = pulsesPlan cfg (bytesPulses m vs) := by
  induction vs with
  | nil => rfl
  | cons v vs ih => rw [bytesPlan, bytePlan_eq_pulsesPlan, ih, ← pulsesPlan_append]; rfl

theorem linePlan_eq_pulsesPlan (cfg : CoreConfig) (address : Byte) (text : List Byte) :
    linePlan cfg address text = pulsesPlan cfg (linePulses address text) := by
  rw [linePlan, bytePlan_eq_pulsesPlan, bytesPlan_eq_pulsesPlan, ← pulsesPlan_append]; rfl

theorem length_bytesPulses (m : Mode) (vs : List Byte) : (bytesPulses m vs).length = 2 * vs.length := by
  induction vs with
  | nil => rfl
  | cons v vs ih => rw [bytesPulses, List.flatMap_cons, List.length_append, ← bytesPulses, ih]; simp [bytePulses]; omega

theorem length_line16 (text : List Byte) : (line16 text).length = 16 := by
  simp [line16, lineWidth]; omega

theorem length_linePulses (address : Byte) (text : List Byte) : (linePulses address text).length = 34 := by
  simp [linePulses, length_bytesPulses, length_line16, bytePulses]

/-! Jobs. -/

/-- A driver operation: the nibbles it strobes, given the two configured texts; INIT alone ends with a settle delay, and from
it on the controller is followed (42_display_driver.md R134; 93 U5). -/
structure Drive where
  pulses : List Byte → List Byte → List (Nibble × Mode)
  isInit : Bool

/-- The driver operation that sends these nibbles. -/
def Drive.sending (ps : List (Nibble × Mode)) : Drive := { pulses := fun _ _ => ps, isInit := false }

/-- INIT. -/
def Drive.init : Drive := { pulses := fun _ _ => bytesPulses .command initSeq, isInit := true }

/-- SHOW_NOT_FOUND. -/
def Drive.notFound : Drive :=
  { pulses := fun text1 text2 => linePulses 0x80 text1 ++ linePulses 0xC0 text2, isInit := false }

/-- The nibbles sent under a configuration. -/
def Drive.pulsesOf (d : Drive) (cfg : CoreConfig) : List (Nibble × Mode) := d.pulses cfg.nfLine1 cfg.nfLine2

def Drive.plan (d : Drive) (cfg : CoreConfig) : List Act :=
  pulsesPlan cfg (d.pulsesOf cfg) ++ if d.isInit then [.wait .settle] else []

/-- The state in which the first call is made. -/
def Drive.enter (d : Drive) (s : State) : State :=
  if d.isInit then { s with display := startFollowing s.display } else s

/-- No operation sends more than the two lines of the formatter: 68 nibbles. -/
def Drive.Bounded (d : Drive) : Prop := ∀ text1 text2, (d.pulses text1 text2).length ≤ 68

theorem Drive.sending_bounded {ps : List (Nibble × Mode)} (h : ps.length ≤ 68) : (Drive.sending ps).Bounded :=
  fun _ _ => h

theorem Drive.init_bounded : Drive.init.Bounded := fun _ _ => by
  simp [Drive.init, length_bytesPulses, initSeq]

theorem Drive.notFound_bounded : Drive.notFound.Bounded := fun text1 text2 => by
  simp [Drive.notFound, length_linePulses]

/-- What an instruction does once the core accepts it. -/
inductive Job where
  | lookup (k : Byte)
  | frame (f : Frame)
  | scan (fs : List Frame)
  | drive (d : Drive)

def Job.run : Job → State → State
  | .lookup k, s => s.finish (.lookup ((sctEntry s.cfg.sct k).map (fun e => (e.plain, e.shifted))))
  | .frame f, s => s.decodeFrame f
  | .scan fs, s => s.decodeScan fs
  | .drive d, s => runActs (d.plan s.cfg) (d.enter s)

/-- A driver operation whose plan sends the nibbles of `d`. -/
theorem driverOp_eq_drive (plan : CoreConfig → List Act) (d : Drive) (hinit : d.isInit = false)
    (hplan : ∀ cfg, plan cfg = pulsesPlan cfg (d.pulsesOf cfg)) (pre : Option Reason) (s : State) :
    driverOp pre plan s = accept pre (Job.drive d).run s := by
  unfold driverOp
  congr 1
  funext s
  simp [Job.run, Drive.plan, Drive.enter, hinit, hplan]

/-! The driver's instructions as jobs. -/

section DriverJobs

variable (s : State)

theorem exec_writeNibble (n : Byte) (m : Mode) : exec (.writeNibble n m) s =
    accept (nibblePrecondition n) (Job.drive (.sending [(lowNibble n, m)])).run s :=
  driverOp_eq_drive (fun cfg => nibblePlan cfg (lowNibble n) m) _ rfl (fun cfg => nibblePlan_eq_pulsesPlan cfg _ m) _ s

theorem exec_writeByte (v : Byte) (m : Mode) : exec (.writeByte v m) s =
    accept none (Job.drive (.sending (bytePulses m v))).run s :=
  driverOp_eq_drive (fun cfg => bytePlan cfg v m) (.sending (bytePulses m v)) rfl (fun cfg => bytePlan_eq_pulsesPlan cfg v m) _ s

theorem exec_init : exec .init s = accept none (Job.drive .init).run s := by
  simp only [exec, execInit, initPlan, bytesPlan_eq_pulsesPlan]
  rfl

theorem exec_writeString (text : List Byte) {line : LineSel} {address : Byte} (h : lineCommand line = some address) :
    exec (.writeString text line) s = accept none (Job.drive (.sending (linePulses address text))).run s := by
  have hpre : linePrecondition line = none := by simp [linePrecondition, h]
  have hplan : ∀ cfg, stringPlan cfg text line = pulsesPlan cfg (linePulses address text) := fun cfg => by
    simp [stringPlan, h, linePlan_eq_pulsesPlan]
  simp only [exec, execWriteString, hpre]
  exact driverOp_eq_drive (fun cfg => stringPlan cfg text line) (.sending (linePulses address text)) rfl hplan none s

theorem exec_defineGlyph (slot : Byte) (bitmap : List Byte) : exec (.defineGlyph slot bitmap) s =
    accept (glyphPrecondition slot bitmap) (Job.drive (.sending
      (bytePulses .command (glyphCommand (slot.setWidth 3)) ++ bytesPulses .character bitmap))).run s := by
  refine driverOp_eq_drive (fun cfg => glyphPlan cfg (slot.setWidth 3) bitmap) _ rfl (fun cfg => ?_) _ s
  rw [glyphPlan, bytePlan_eq_pulsesPlan, bytesPlan_eq_pulsesPlan, ← pulsesPlan_append]
  rfl

theorem exec_showProduct (title price : List Byte) : exec (.showProduct title price) s =
    accept none (Job.drive (.sending (linePulses 0x80 title ++ linePulses 0xC0 (glyphChar :: price)))).run s := by
  refine driverOp_eq_drive (fun cfg => linePlan cfg 0x80 title ++ linePlan cfg 0xC0 (glyphChar :: price)) _ rfl
    (fun cfg => ?_) _ s
  rw [linePlan_eq_pulsesPlan, linePlan_eq_pulsesPlan, ← pulsesPlan_append]
  rfl

theorem exec_showNotFound : exec .showNotFound s = accept none (Job.drive .notFound).run s := by
  refine driverOp_eq_drive (fun cfg => linePlan cfg 0x80 cfg.nfLine1 ++ linePlan cfg 0xC0 cfg.nfLine2) _ rfl
    (fun cfg => ?_) _ s
  rw [linePlan_eq_pulsesPlan, linePlan_eq_pulsesPlan, ← pulsesPlan_append]
  rfl

/-- Each row of a controller byte is the WRITE_BYTE of its byte (Log 2). -/
theorem exec_controllerRow (slot : BitVec 3) (c : Byte) : ∀ r ∈ controllerRows slot c,
    exec r.1 s = exec (.writeByte r.2.1 r.2.2) s := by
  have hglyph : glyphCommand slot = BitVec.ofNat 8 (0x40 + 8 * slot.toNat) := by revert slot; decide
  simp only [controllerRows, ← hglyph, List.forall_mem_cons]
  exact ⟨rfl, rfl, rfl, rfl, rfl, rfl, rfl, rfl, rfl, rfl, rfl, rfl, fun _ h => nomatch h⟩

/-- Both rows of a bus byte are the WRITE_NIBBLE of their nibble (Log 2). -/
theorem exec_busRow (n : Nibble) (b : Bool) (m : Mode) :
    exec (.busSetup n b m) s = accept none (Job.drive (.sending [(n, m)])).run s ∧
      exec (.busStrobe n b m) s = accept none (Job.drive (.sending [(n, m)])).run s :=
  have h := driverOp_eq_drive (fun cfg => nibblePlan cfg n m) (.sending [(n, m)]) rfl
    (fun cfg => nibblePlan_eq_pulsesPlan cfg n m) none s
  ⟨h, h⟩

end DriverJobs

/-! Every instruction as a job. -/

/-- The jobs of the instruction set: no driver operation sends more than 68 nibbles. -/
def Job.Bounded : Job → Prop
  | .drive d => d.Bounded
  | .lookup _ | .frame _ | .scan _ => True

theorem job_of_sending {i : Instr} {ps : List (Nibble × Mode)}
    (h : ∀ s, exec i s = accept (preconditionOf i) (Job.drive (.sending ps)).run s) (hlen : ps.length ≤ 68) :
    ∃ j : Job, j.Bounded ∧ ∀ s, exec i s = accept (preconditionOf i) j.run s :=
  ⟨.drive (.sending ps), Drive.sending_bounded hlen, h⟩

theorem job_of_writeByte {i : Instr} (v : Byte) (m : Mode) (hpre : preconditionOf i = none)
    (h : ∀ s, exec i s = exec (.writeByte v m) s) :
    ∃ j : Job, j.Bounded ∧ ∀ s, exec i s = accept (preconditionOf i) j.run s :=
  job_of_sending (fun s => (h s).trans ((exec_writeByte s v m).trans (by rw [hpre]))) (by simp [bytePulses])

/-- Every instruction is a request with the reason its operands give, for one job. -/
theorem exists_job (i : Instr) :
    ∃ j : Job, j.Bounded ∧ ∀ s, exec i s = accept (preconditionOf i) j.run s := by
  cases i with
  | lookup k => exact ⟨.lookup k, trivial, fun _ => rfl⟩
  | decodeFrame frame =>
    by_cases h : frame.length = 8
    · obtain ⟨f, rfl⟩ := exists_frame h
      exact ⟨.frame f, trivial, fun _ => rfl⟩
    · have hpre : framePrecondition frame = some .badFrame := if_neg h
      exact ⟨.scan [], trivial, fun s => by simp only [exec, execDecodeFrame, preconditionOf, hpre, accept_refused]⟩
  | decodeScan bytes =>
    by_cases h : bytes.length % 8 = 0
    · obtain ⟨fs, rfl⟩ := exists_bytesOf_of_mod h
      have hpre : scanPrecondition (bytesOf fs) = none := if_pos h
      exact ⟨.scan fs, trivial, fun s => (exec_decodeScan_bytesOf fs s).trans (by rw [preconditionOf, hpre]; rfl)⟩
    · have hpre : scanPrecondition bytes = some .badLength := if_neg h
      exact ⟨.scan [], trivial, fun s => by simp only [exec, execDecodeScan, preconditionOf, hpre, accept_refused]⟩
  | writeNibble n m => exact job_of_sending (fun s => exec_writeNibble s n m) (by simp)
  | writeByte v m => exact job_of_writeByte v m rfl (fun _ => rfl)
  | init => exact ⟨.drive .init, Drive.init_bounded, exec_init⟩
  | writeString text line =>
    cases h : lineCommand line with
    | some address =>
      have hpre : linePrecondition line = none := by simp [linePrecondition, h]
      exact job_of_sending (fun s => (exec_writeString s text h).trans (by rw [preconditionOf, hpre]))
        (by rw [length_linePulses]; omega)
    | none =>
      have hpre : linePrecondition line = some .badLine := by simp [linePrecondition, h]
      exact ⟨.scan [], trivial, fun s => by
        simp only [exec, execWriteString, driverOp, preconditionOf, hpre, accept_refused]⟩
  | defineGlyph slot bitmap =>
    by_cases h : bitmap.length = 8
    · exact job_of_sending (fun s => exec_defineGlyph s slot bitmap) (by simp [length_bytesPulses, bytePulses, h])
    · obtain ⟨r, hpre⟩ : ∃ r, glyphPrecondition slot bitmap = some r := by
        unfold glyphPrecondition
        split_ifs
        · exact ⟨_, rfl⟩
        · exact ⟨_, rfl⟩
      exact ⟨.scan [], trivial, fun s => by
        simp only [exec, execDefineGlyph, driverOp, preconditionOf, hpre, accept_refused]⟩
  | showProduct title price =>
    exact job_of_sending (fun s => exec_showProduct s title price) (by simp [length_linePulses])
  | showNotFound => exact ⟨.drive .notFound, Drive.notFound_bounded, exec_showNotFound⟩
  | opUnassignedA | opUnassignedB | opUnassignedC | opUnassignedD | opUnassignedE | opUnassignedF =>
    exact ⟨.scan [], trivial, fun _ => rfl⟩
  | init33 => exact job_of_writeByte 0x33 .command rfl (fun _ => rfl)
  | init32 => exact job_of_writeByte 0x32 .command rfl (fun _ => rfl)
  | init06 => exact job_of_writeByte 0x06 .command rfl (fun _ => rfl)
  | init0C => exact job_of_writeByte 0x0C .command rfl (fun _ => rfl)
  | init28 => exact job_of_writeByte 0x28 .command rfl (fun _ => rfl)
  | init01 => exact job_of_writeByte 0x01 .command rfl (fun _ => rfl)
  | lineAddr0 => exact job_of_writeByte 0x80 .command rfl (fun _ => rfl)
  | lineAddr1 => exact job_of_writeByte 0xC0 .command rfl (fun _ => rfl)
  | lineAddr2 => exact job_of_writeByte 0x94 .command rfl (fun _ => rfl)
  | lineAddr3 => exact job_of_writeByte 0xD4 .command rfl (fun _ => rfl)
  | cgramAddr slot => exact job_of_writeByte (glyphCommand slot) .command rfl (fun _ => rfl)
  | char c => exact job_of_writeByte c .character rfl (fun _ => rfl)
  | busSetup n b m => exact job_of_sending (fun s => (exec_busRow s n b m).1) (by simp)
  | busStrobe n b m => exact job_of_sending (fun s => (exec_busRow s n b m).2) (by simp)
  | _ => exact ⟨.frame (keyFrame _ _), trivial, fun _ => rfl⟩

/-! Refusals. -/

/-- An instruction whose operands give a reason is refused with it in every state, and nothing else happens. -/
theorem exec_of_precondition {i : Instr} {r : Reason} (h : preconditionOf i = some r) (s : State) :
    exec i s = .next { s with results := s.results ++ [.refused r] } := by
  obtain ⟨j, -, hj⟩ := exists_job i
  rw [hj, h, accept_refused]

theorem linePrecondition_eq_none {line : LineSel} (h : lineOk line = true) : linePrecondition line = none := by
  cases line with
  | index n =>
    have hall : ∀ n : Byte, n.toNat < 4 → linePrecondition (.index n) = none := by decide
    exact hall n (by simpa [lineOk] using h)
  | address b =>
    have hb : b = 0x80#8 ∨ b = 0xC0#8 ∨ b = 0x94#8 ∨ b = 0xD4#8 := by simpa [lineOk] using h
    simp [linePrecondition, lineCommand, hb]

theorem glyphPrecondition_eq_none {slot : Byte} {bitmap : List Byte} (hs : slot.toNat < 8) (hb : bitmap.length = 8) :
    glyphPrecondition slot bitmap = none := by
  simp [glyphPrecondition, hs, hb]

/-- The operands of a well-formed instruction give no reason. -/
theorem preconditionOf_of_wf {i : Instr} (h : i.wf = true) : preconditionOf i = none := by
  cases i with
  | decodeFrame f => simpa [Instr.wf, Instr.canonical, eightBytes, preconditionOf, framePrecondition] using h
  | decodeScan bs => simpa [Instr.wf, Instr.canonical, lengthOk, preconditionOf, scanPrecondition] using h
  | writeNibble n m => simpa [Instr.wf, Instr.canonical, nibbleOk, preconditionOf, nibblePrecondition] using h
  | writeString t line => exact linePrecondition_eq_none (by simpa [Instr.wf, Instr.canonical] using h)
  | defineGlyph slot bm =>
    obtain ⟨hs, hb⟩ : slot.toNat < 8 ∧ bm.length = 8 := by
      simpa [Instr.wf, Instr.canonical, slotOk, eightBytes] using h
    exact glyphPrecondition_eq_none hs hb
  | opUnassignedA | opUnassignedB | opUnassignedC | opUnassignedD | opUnassignedE | opUnassignedF => cases h
  | _ => rfl

/-- Settles O13. -/
theorem unassignedCodesAreRefusedBadOp : Obligations.UnassignedCodesAreRefusedBadOp := by
  intro s i hi
  have hpre : ∀ i ∈ [Instr.opUnassignedA, .opUnassignedB, .opUnassignedC, .opUnassignedD, .opUnassignedE,
      .opUnassignedF], preconditionOf i = some .badOp := by decide
  exact exec_of_precondition (hpre i hi) s

/-- Settles O14: each clause computes the one reason its operands give. -/
theorem brokenPreconditionsAreRefused : Obligations.BrokenPreconditionsAreRefused := by
  intro s refusedWith
  refine ⟨fun bytes h => ?_, fun frame h => ?_, fun text n h => ?_, fun text b h => ?_, fun slot bitmap h => ?_,
    fun slot bitmap hs hb => ?_, fun n m h => ?_⟩
  · exact exec_of_precondition (i := .decodeScan bytes) (if_neg h) s
  · exact exec_of_precondition (i := .decodeFrame frame) (if_neg h) s
  · have hall : ∀ n : Byte, 4 ≤ n.toNat → linePrecondition (.index n) = some .badLine := by decide
    exact exec_of_precondition (i := .writeString text (.index n)) (hall n h) s
  · have hline : linePrecondition (.address b) = some .badLine := by
      have hb : ¬ (b = 0x80#8 ∨ b = 0xC0#8 ∨ b = 0x94#8 ∨ b = 0xD4#8) := by simpa [lineAddresses] using h
      simp [linePrecondition, lineCommand, hb]
    exact exec_of_precondition (i := .writeString text (.address b)) hline s
  · exact exec_of_precondition (i := .defineGlyph slot bitmap) (if_pos (by omega)) s
  · exact exec_of_precondition (i := .defineGlyph slot bitmap) ((if_neg (by omega)).trans (if_pos hb)) s
  · exact exec_of_precondition (i := .writeNibble n m) (if_neg (by omega)) s

/-- Settles O15. -/
theorem requestsDuringAnOperationAreBusy : Obligations.RequestsDuringAnOperationAreBusy := by
  intro i s hwf hbusy
  obtain ⟨j, -, hj⟩ := exists_job i
  rw [hj, preconditionOf_of_wf hwf, accept_busy hbusy]

/-! The step. -/

section OldestRequest

variable {s : State} {r : Request} {rest : List Request} (hr : s.requests = r :: rest)
include hr

theorem step_of_instr {i : Instr} (hd : decodeWhole r.format r.bytes = .ok i) :
    step s = exec i (s.taken r rest) := by
  simp [step, State.fetch, hr, hd]

theorem step_of_noSuchRow {f : Format} {w : Byte} (hd : decodeWhole r.format r.bytes = .error (.noSuchRow f w)) :
    step s = .next (s.taken r rest).refuseBadOp := by
  simp [step, State.fetch, hr, hd]

end OldestRequest

/-- Settles O11. -/
theorem stepRunsTheDecodedInstruction : Obligations.StepRunsTheDecodedInstruction :=
  fun _ _ _ _ hr hd => step_of_instr hr hd

/-- Settles O12, by what the request port can give. -/
theorem stepIdlesOrStopsByName : Obligations.StepIdlesOrStopsByName := by
  refine ⟨fun s hr => ?_, fun s r rest f w hr hd => step_of_noSuchRow hr hd, fun s r rest e hr hne hd => ?_⟩
  · simp [step, State.fetch, hr, State.idled]
  · cases e with
    | noSuchRow f w => exact absurd rfl (hne f w)
    | truncated | trailingBytes | badTag b | badPosition b | longBlock => simp [step, State.fetch, hr, hd]

/-! Reset and restart. -/

theorem Display.unknown_inv (i : Iface) : (Display.unknown i).inv := by
  simp [Display.inv, Display.unknown]

/-- Settles O1. -/
theorem resetLeavesTheCoreIdle : Obligations.ResetLeavesTheCoreIdle :=
  ⟨rfl, rfl, rfl, rfl, rfl, rfl, rfl, rfl, rfl, rfl, rfl, rfl, Nat.le_add_right .., Nat.le_add_right ..⟩

/-- Settles O2: nothing is recorded and nothing is known yet. -/
theorem resetSatisfiesTheInvariant : Obligations.ResetSatisfiesTheInvariant := by
  simp [Obligations.ResetSatisfiesTheInvariant, State.Inv, State.reset]

/-- Settles O5: of the invariant only the clause on the controller speaks of what a restart keeps. -/
theorem restartKeepsTheTarget : Obligations.RestartKeepsTheTarget := by
  intro cfg s t
  refine ⟨rfl, rfl, rfl, rfl, rfl, rfl, rfl, rfl, rfl, rfl, ?_, rfl, ?_, rfl⟩
  · rintro ⟨-, -, -, -, hdisplay⟩
    exact ⟨rfl, Nat.le_refl 0, by simp [t, State.reset], by simp [t, State.reset], hdisplay⟩
  · rintro ⟨hresult, hwrites, htrace, hresults, -⟩
    exact ⟨hresult, hwrites, htrace, hresults, fun d hd => by cases hd; exact Display.unknown_inv .eight⟩

end Sys2Proof.Machine

/-! What an instruction can do to the core and to the observer's record, said once for all instructions: it either returns
without using the bus, or issues the events of a driver operation as far as the bus lets it (00_scope.md R12, 42_display_driver.md,
60_exceptions.md R173, R189). -/

namespace Sys2Proof.Machine

/-! The events of a driver operation. -/

/-- The events of some nibbles (42_display_driver.md R131, R141). -/
def sentPulses (cfg : CoreConfig) (ps : List (Nibble × Mode)) : List Event :=
  ps.flatMap (fun p => sentNibble cfg p.1.toNat p.2)

/-- The events of a driver operation whose writes all succeed. -/
def Drive.events (d : Drive) (cfg : CoreConfig) : List Event :=
  sentPulses cfg (d.pulsesOf cfg) ++ if d.isInit then [.d .settle] else []

theorem sentPulses_append (cfg : CoreConfig) (ps qs : List (Nibble × Mode)) :
    sentPulses cfg (ps ++ qs) = sentPulses cfg ps ++ sentPulses cfg qs := List.flatMap_append

theorem sentPulses_cons (cfg : CoreConfig) (p : Nibble × Mode) (ps : List (Nibble × Mode)) :
    sentPulses cfg (p :: ps) = sentNibble cfg p.1.toNat p.2 ++ sentPulses cfg ps := rfl

/-- The statements' bus byte is the driver's with the enable line low (30_encoding.md R66, R76 (d)). -/
theorem lowByte_eq_busbyte (cfg : CoreConfig) (n : Nibble) (m : Mode) :
    lowByte cfg n.toNat m = busbyte cfg.backlight n m false := by
  unfold lowByte
  cases cfg.backlight <;> cases m <;> revert n <;> decide

theorem busbyte_add_four (bl : Bool) (n : Nibble) (m : Mode) : busbyte bl n m false + 4 = busbyte bl n m true := by
  cases bl <;> cases m <;> revert n <;> decide

/-- The events of one nibble, by the driver's bus bytes. -/
theorem sentNibble_eq (cfg : CoreConfig) (n : Nibble) (m : Mode) : sentNibble cfg n.toNat m =
    [.w cfg.busAddr (busbyte cfg.backlight n m false), .d .settle, .w cfg.busAddr (busbyte cfg.backlight n m true), .d .pulse,
      .w cfg.busAddr (busbyte cfg.backlight n m false), .d .settle] ++
      if cfg.nibbleTrailingWrite then [.w cfg.busAddr (busbyte cfg.backlight n m false)] else [] := by
  rw [sentNibble, lowByte_eq_busbyte, busbyte_add_four]

theorem actEvents_nibblePlan (cfg : CoreConfig) (n : Nibble) (m : Mode) :
    actEvents cfg.busAddr (nibblePlan cfg n m) = sentNibble cfg n.toNat m := by
  rw [sentNibble_eq, nibblePlan, enableHigh_busbyte, enableLow_busbyte]
  cases cfg.nibbleTrailingWrite <;> rfl

theorem actEvents_pulsesPlan (cfg : CoreConfig) (ps : List (Nibble × Mode)) :
    actEvents cfg.busAddr (pulsesPlan cfg ps) = sentPulses cfg ps := by
  induction ps with
  | nil => rfl
  | cons p ps ih =>
    rw [pulsesPlan, List.flatMap_cons, actEvents_append, ← pulsesPlan, ih, actEvents_nibblePlan, sentPulses_cons]

theorem actEvents_plan (d : Drive) (cfg : CoreConfig) : actEvents cfg.busAddr (d.plan cfg) = d.events cfg := by
  rw [Drive.plan, actEvents_append, actEvents_pulsesPlan, Drive.events]
  cases d.isInit <;> rfl

theorem Drive.sending_events (ps : List (Nibble × Mode)) (cfg : CoreConfig) :
    (Drive.sending ps).events cfg = sentPulses cfg ps := List.append_nil _

/-! What running a driver operation does. -/

@[simp] theorem Drive.enter_trace (d : Drive) (s : State) : (d.enter s).trace = s.trace := by
  unfold Drive.enter; split <;> rfl
@[simp] theorem Drive.enter_results (d : Drive) (s : State) : (d.enter s).results = s.results := by
  unfold Drive.enter; split <;> rfl
@[simp] theorem Drive.enter_cfg (d : Drive) (s : State) : (d.enter s).cfg = s.cfg := by
  unfold Drive.enter; split <;> rfl
@[simp] theorem Drive.enter_fi (d : Drive) (s : State) : (d.enter s).fi = s.fi := by
  unfold Drive.enter; split <;> rfl
@[simp] theorem Drive.enter_seqStep (d : Drive) (s : State) : (d.enter s).seqStep = s.seqStep := by
  unfold Drive.enter; split <;> rfl
@[simp] theorem Drive.enter_opWrites (d : Drive) (s : State) : (d.enter s).opWrites = s.opWrites := by
  unfold Drive.enter; split <;> rfl
@[simp] theorem Drive.enter_lines (d : Drive) (s : State) : (d.enter s).lines = s.lines := by
  unfold Drive.enter; split <;> rfl
@[simp] theorem Drive.enter_answers (d : Drive) (s : State) : (d.enter s).answers = s.answers := by
  unfold Drive.enter; split <;> rfl
@[simp] theorem Drive.enter_busCount (d : Drive) (s : State) : (d.enter s).busCount = s.busCount := by
  unfold Drive.enter; split <;> rfl
@[simp] theorem Drive.enter_answerAt (d : Drive) (s : State) (j : Nat) : (d.enter s).answerAt j = s.answerAt j := by
  unfold Drive.enter; split <;> rfl

theorem keepsCore_enter {d : Drive} {s t : State} (h : KeepsCore (d.enter s.started) t) : KeepsCore s t := by
  unfold Drive.enter at h
  split at h <;> exact h

section Accepted

variable {i : Instr} {s : State} {d : Drive} (hidle : s.inProgress = false)
  (hexec : exec i s = accept none (Job.drive d).run s)
include hidle hexec

/-- An accepted driver operation issues its events as far as the bus lets it. -/
theorem sendsExactly_of_drive : SendsExactly i s (d.events s.cfg) := by
  have h := runActs_spec (d.plan s.cfg) (d.enter s.started) s.answerAt (fun k => by simp)
  simp only [Drive.enter_opWrites, Drive.enter_cfg, State.started_opWrites, State.started_cfg, actEvents_plan] at h
  obtain ⟨h1, h2, h3, h4, h5, h6, h7, h8⟩ := h
  exact ⟨runActs (d.plan s.cfg) (d.enter s.started), hexec.trans (accept_idle hidle), by simpa using h1,
    by simpa using h2, by simpa using h3, by simpa using h4, by simpa using h5, by simpa using h6, by simpa using h7,
    keepsCore_enter h8⟩

/-- What it does to the bus target. -/
theorem target_of_drive {t : State} (ht : exec i s = .next t) :
    (t.lines, t.display) =
      if (issue s.answerAt 0 (d.events s.cfg)).2 = .ok then
        deliverAll (delivered (issue s.answerAt 0 (d.events s.cfg)).1) (s.lines, (d.enter s).display)
      else (none, none) := by
  have h := runActs_target (d.plan s.cfg) (d.enter s.started) s.answerAt (fun k => by simp)
  simp only [Drive.enter_opWrites, Drive.enter_cfg, Drive.enter_lines, State.started_opWrites, State.started_cfg,
    State.started_lines, actEvents_plan] at h
  obtain rfl : runActs (d.plan s.cfg) (d.enter s.started) = t := by
    injection (hexec.trans (accept_idle hidle)).symm.trans ht
  refine h.trans ?_
  unfold Drive.enter
  cases d.isInit <;> rfl

end Accepted

/-! Returning without using the bus. -/

/-- From `s` the core has come to `t` by returning `r` without using the bus. -/
structure ReturnsQuietly (s t : State) (r : Result) : Prop where
  trace      : t.trace = s.trace
  results    : t.results = s.results ++ [r]
  cfg        : t.cfg = s.cfg
  requests   : t.requests = s.requests
  inProgress : t.inProgress = s.inProgress
  lines      : t.lines = s.lines
  display    : t.display = s.display
  result     : s.result = [] → t.result = []
  opWrites   : s.opWrites ≤ s.seqStep → t.opWrites ≤ t.seqStep

/-- A result that no bus write decides and the core can return. -/
def Result.Quiet (r : Result) : Prop := r.inv ∧ r ≠ .ok ∧ ∀ b k, r ≠ .busFailure b k

theorem Result.quiet_refused (r : Reason) : (Result.refused r).Quiet := by simp [Result.Quiet, Result.inv]

theorem Result.quiet_lookup (e : Option (Byte × Byte)) : (Result.lookup e).Quiet := by simp [Result.Quiet, Result.inv]

theorem Result.quiet_frame (v : FrameValue) (report : Option Byte) : (Result.frame v report).Quiet := by
  simp [Result.Quiet, Result.inv]

/-- A scan's string is not empty and holds no newline. -/
theorem Result.quiet_scan (chars : List Byte) (reports : List (Nat × Byte)) :
    (Result.scan (scanValue (cutAtSentinel chars)) reports).Quiet := by
  refine ⟨?_, by simp, by simp⟩
  cases h : cutAtSentinel chars with
  | nil => trivial
  | cons c cut => exact ⟨by simp, h ▸ not_mem_cutAtSentinel chars⟩

theorem returnsQuietly_refused (s : State) (r : Reason) : ReturnsQuietly s (s.finish (.refused r)) (.refused r) :=
  ⟨rfl, rfl, rfl, rfl, rfl, rfl, rfl, id, id⟩

theorem returnsQuietly_decodeFrame (f : Frame) (s : State) : ReturnsQuietly s (s.started.decodeFrame f)
    (.frame (frameMeaning s.cfg.sct f.toBytes).1 (frameMeaning s.cfg.sct f.toBytes).2) := by
  rw [State.decodeFrame_started]
  exact ⟨rfl, rfl, rfl, rfl, rfl, rfl, rfl, id, fun _ => Nat.le_refl 0⟩

theorem returnsQuietly_decodeScan (fs : List Frame) (s : State) : ReturnsQuietly s (s.started.decodeScan fs)
    (.scan (scanValue (cutAtSentinel (scanChars s.cfg.sct (bytesOf fs)))) (scanReports s.cfg.sct (bytesOf fs))) :=
  ⟨rfl, State.decodeScan_started_results fs s, rfl, rfl, rfl, rfl, rfl, fun _ => rfl, fun _ => Nat.le_refl 0⟩

/-- An idle core runs a job of the decoder to a result that only the table decides, or runs a driver operation. -/
theorem Job.cases (j : Job) :
    (∃ answer : List KeycodeEntry → Result, (∀ sct, (answer sct).Quiet) ∧
      ∀ s, ReturnsQuietly s (j.run s.started) (answer s.cfg.sct)) ∨ ∃ d, j = .drive d := by
  cases j with
  | lookup k =>
    exact .inl ⟨fun sct => .lookup ((sctEntry sct k).map (fun e => (e.plain, e.shifted))),
      fun _ => Result.quiet_lookup _, fun _ => ⟨rfl, rfl, rfl, rfl, rfl, rfl, rfl, id, fun _ => Nat.le_refl 0⟩⟩
  | frame f =>
    exact .inl ⟨fun sct => .frame (frameMeaning sct f.toBytes).1 (frameMeaning sct f.toBytes).2,
      fun _ => Result.quiet_frame _ _, returnsQuietly_decodeFrame f⟩
  | scan fs =>
    exact .inl ⟨fun sct => .scan (scanValue (cutAtSentinel (scanChars sct (bytesOf fs)))) (scanReports sct (bytesOf fs)),
      fun _ => Result.quiet_scan _ _, returnsQuietly_decodeScan fs⟩
  | drive d => exact .inr ⟨d, rfl⟩

/-- Everything an instruction can do, in all states with the same in-progress bit alike: it returns without using the bus a
result that only the table decides, or, on an idle core, it is a driver operation. -/
theorem exec_cases (i : Instr) (busy : Bool) :
    (∃ answer : List KeycodeEntry → Result, (∀ sct, (answer sct).Quiet) ∧
      ∀ s, s.inProgress = busy → ∃ t, exec i s = .next t ∧ ReturnsQuietly s t (answer s.cfg.sct)) ∨
    (busy = false ∧ ∃ d : Drive, d.Bounded ∧ ∀ s, exec i s = accept none (Job.drive d).run s) := by
  obtain ⟨j, hbounded, hj⟩ := exists_job i
  cases hpre : preconditionOf i with
  | some r =>
    exact .inl ⟨fun _ => .refused r, fun _ => Result.quiet_refused r, fun s _ =>
      ⟨_, (hj s).trans (by rw [hpre]; rfl), returnsQuietly_refused s r⟩⟩
  | none =>
    rw [hpre] at hj
    cases busy with
    | true =>
      exact .inl ⟨fun _ => .refused .busy, fun _ => Result.quiet_refused .busy, fun s hbusy =>
        ⟨_, (hj s).trans (accept_busy hbusy), returnsQuietly_refused s .busy⟩⟩
    | false =>
      rcases j.cases with ⟨answer, hquiet, hrun⟩ | ⟨d, rfl⟩
      · exact .inl ⟨answer, hquiet, fun s hidle => ⟨_, (hj s).trans (accept_idle hidle), hrun s⟩⟩
      · exact .inr ⟨rfl, d, hbounded, hj⟩

/-- Settles O6. -/
theorem everyInstructionReturnsOneResult : Obligations.EveryInstructionReturnsOneResult := by
  intro i s
  rcases exec_cases i s.inProgress with ⟨answer, -, h⟩ | ⟨hidle, d, -, h⟩
  · obtain ⟨t, ht, hq⟩ := h s rfl
    exact ⟨t, _, ht, hq.results, hq.trace ▸ List.prefix_rfl, hq.cfg, hq.requests, hq.inProgress⟩
  · obtain ⟨t, ht, htrace, hresults, -, -, -, -, -, -, -, -, hcfg, hbusy, hreq⟩ := sendsExactly_of_drive hidle (h s)
    exact ⟨t, _, ht, hresults, htrace ▸ List.prefix_append _ _, hcfg, hreq, hbusy⟩

/-- Settles O4: every instruction keeps the configuration, and so do an idle step and a refusal. -/
theorem noStepChangesTheConfiguration : Obligations.NoStepChangesTheConfiguration := by
  intro s t h
  rcases step_next_cases h with rfl | ⟨r, rest, -, rfl⟩ | ⟨r, rest, i, -, -, hexec⟩
  · rfl
  · rfl
  · obtain ⟨t', _, ht', -, -, hcfg, -, -⟩ := everyInstructionReturnsOneResult i (s.taken r rest)
    obtain rfl : t' = t := by injection ht'.symm.trans hexec
    exact hcfg

end Sys2Proof.Machine

/-! The traces of the driver's operations, in the words of the statements (42_display_driver.md, 43_display_formatter.md). -/

namespace Sys2Proof.Machine

/-! The statements' traces as nibbles. -/

theorem toNat_highNibble (v : Byte) : (highNibble v).toNat = v.toNat / 16 := by
  have hv := v.isLt
  simp [highNibble, BitVec.extractLsb'_toNat, Nat.shiftRight_eq_div_pow]
  omega

theorem toNat_lowNibble (v : Byte) : (lowNibble v).toNat = v.toNat % 16 := by
  simp [lowNibble, BitVec.extractLsb'_toNat]

theorem sentByte_eq_sentPulses (cfg : CoreConfig) (m : Mode) (v : Byte) :
    sentByte cfg m v = sentPulses cfg (bytePulses m v) := by
  simp [sentByte, sentPulses, bytePulses, toNat_highNibble, toNat_lowNibble]

theorem sentBytes_eq_sentPulses (cfg : CoreConfig) (m : Mode) (vs : List Byte) :
    sentBytes cfg m vs = sentPulses cfg (bytesPulses m vs) := by
  induction vs with
  | nil => rfl
  | cons v vs ih =>
    rw [sentBytes, List.flatMap_cons, ← sentBytes, ih, sentByte_eq_sentPulses, ← sentPulses_append]; rfl

/-- Padding and cutting a text by index is `line16` (30_encoding.md R73). -/
theorem displayLine_eq_line16 (text : List Byte) : displayLine text = line16 text := by
  refine List.ext_getElem (by rw [length_line16]; simp [displayLine]) (fun i hi _ => ?_)
  have hi16 : i < 16 := by simpa [displayLine] using hi
  by_cases h : i < text.length
  · simp [displayLine, line16, lineWidth, h, hi16]
  · have hge : text.length ≤ i := by omega
    simp [displayLine, line16, lineWidth, padChar, h, hge]

theorem sentLine_eq_sentPulses (cfg : CoreConfig) (address : Byte) (text : List Byte) :
    sentLine cfg address text = sentPulses cfg (linePulses address text) := by
  rw [sentLine, sentByte_eq_sentPulses, sentBytes_eq_sentPulses, displayLine_eq_line16, ← sentPulses_append]; rfl

/-- A line, by its index or its address byte, has its address byte as its command (30_encoding.md R68, R74). -/
theorem lineCommand_of_line {n : Nat} {address : Byte} {line : LineSel} (h : lineAddresses[n]? = some address)
    (hline : line = .index (BitVec.ofNat 8 n) ∨ line = .address address) : lineCommand line = some address := by
  have hn : n < 4 := (List.getElem?_eq_some_iff.mp h).1
  have hall : ∀ n < 4, ∀ address, lineAddresses[n]? = some address →
      lineCommand (.index (BitVec.ofNat 8 n)) = some address ∧ lineCommand (.address address) = some address := by decide
  obtain ⟨hindex, haddress⟩ := hall n hn address h
  rcases hline with rfl | rfl
  · exact hindex
  · exact haddress

theorem glyphCommand_setWidth {slot : Byte} (h : slot.toNat < 8) :
    glyphCommand (slot.setWidth 3) = BitVec.ofNat 8 (0x40 + 8 * slot.toNat) := by
  revert slot; decide

theorem nibblePrecondition_eq_none {n : Byte} (h : n.toNat < 16) : nibblePrecondition n = none := if_pos h

/-! What each operation sends. -/

section Sends

variable {i : Instr} {s : State} {ps : List (Nibble × Mode)} (hidle : s.inProgress = false)
include hidle

theorem sendsExactly_of_sending {planned : List Event} (hplanned : planned = sentPulses s.cfg ps)
    (hexec : exec i s = accept none (Job.drive (.sending ps)).run s) : SendsExactly i s planned := by
  rw [hplanned, ← Drive.sending_events]
  exact sendsExactly_of_drive hidle hexec

theorem sendsExactly_writeByte (v : Byte) (m : Mode) : SendsExactly (.writeByte v m) s (sentByte s.cfg m v) :=
  sendsExactly_of_sending hidle (sentByte_eq_sentPulses s.cfg m v) (exec_writeByte s v m)

end Sends

/-- Settles O30. -/
theorem writeNibbleSendsThePulse : Obligations.WriteNibbleSendsThePulse := by
  intro n m s hidle hn
  refine sendsExactly_of_sending hidle ?_ ((exec_writeNibble s n m).trans (by rw [nibblePrecondition_eq_none hn]))
  simp [sentPulses, toNat_lowNibble, Nat.mod_eq_of_lt hn]

/-- Settles O31. -/
theorem writeByteSendsHighThenLow : Obligations.WriteByteSendsHighThenLow :=
  fun v m _ hidle => sendsExactly_writeByte hidle v m

/-- Settles O32. -/
theorem initSendsTheSixCommands : Obligations.InitSendsTheSixCommands := by
  intro s hidle
  rw [sentBytes_eq_sentPulses]
  exact sendsExactly_of_drive hidle (exec_init s)

/-- Settles O33. -/
theorem writeStringSendsOneLine : Obligations.WriteStringSendsOneLine := by
  intro text n address line s hidle haddress hline
  exact sendsExactly_of_sending hidle (sentLine_eq_sentPulses s.cfg address text)
    (exec_writeString s text (lineCommand_of_line haddress hline))

/-- Settles O34. -/
theorem defineGlyphSendsTheSlotAndRows : Obligations.DefineGlyphSendsTheSlotAndRows := by
  intro slot bitmap s hidle hslot hbitmap
  refine sendsExactly_of_sending hidle ?_
    ((exec_defineGlyph s slot bitmap).trans (by rw [glyphPrecondition_eq_none hslot hbitmap]))
  rw [sentByte_eq_sentPulses, sentBytes_eq_sentPulses, ← sentPulses_append, glyphCommand_setWidth hslot]

/-- Settles O35. -/
theorem showProductSendsTwoLines : Obligations.ShowProductSendsTwoLines := by
  intro title price s hidle
  refine sendsExactly_of_sending hidle ?_ (exec_showProduct s title price)
  rw [sentLine_eq_sentPulses, sentLine_eq_sentPulses, ← sentPulses_append]; rfl

/-- Settles O36. -/
theorem showNotFoundSendsTwoLines : Obligations.ShowNotFoundSendsTwoLines := by
  intro s hidle
  have h := sendsExactly_of_drive hidle (exec_showNotFound s)
  rw [sentLine_eq_sentPulses, sentLine_eq_sentPulses, ← sentPulses_append]
  simpa [Drive.events, Drive.pulsesOf, Drive.notFound] using h

/-- Settles O37: a row is the WRITE_BYTE of its byte. -/
theorem controllerByteRowsSendTheirByte : Obligations.ControllerByteRowsSendTheirByte := by
  intro slot c r hr s hidle
  have h := sendsExactly_writeByte hidle r.2.1 r.2.2
  unfold SendsExactly at h ⊢
  rwa [exec_controllerRow s slot c r hr]

/-- A BUS row's word, where its bit 3 is BACKLIGHT, is the driver's bus byte. -/
theorem busWord_eq_busbyte (n : Nibble) (b strobe : Bool) (m : Mode) : busWord n b strobe m = busbyte b n m strobe := by
  cases b <;> cases strobe <;> cases m <;> revert n <;> decide

/-- Settles O38: a row is the WRITE_NIBBLE of its nibble. -/
theorem busRowsWriteTheirByte : Obligations.BusRowsWriteTheirByte := by
  intro n b m s hidle planned
  have hplanned : planned = sentPulses s.cfg [(n, m)] := (List.append_nil _).symm
  obtain ⟨hsetup, hstrobe⟩ := exec_busRow s n b m
  refine ⟨sendsExactly_of_sending hidle hplanned hsetup, sendsExactly_of_sending hidle hplanned hstrobe,
    busWord n b false m, busWord n b true m, rfl, rfl, ?_⟩
  rintro rfl
  simp [planned, sentNibble_eq, busWord_eq_busbyte]

/-! Issuing a planned trace. -/

/-- Either every planned write succeeds, or the trace stops at the first that fails, which is recorded as F(b). -/
theorem issue_cases (ans : Nat → Bool) (es : List Event) : ∀ i, (issue ans i es = (es, .ok)) ∨
    ∃ pre a b post, es = pre ++ .w a b :: post ∧ ans (i + pre.countP Event.isWrite) = false ∧
      issue ans i es = (pre ++ [.f a b], .busFailure b (i + pre.countP Event.isWrite)) := by
  induction es with
  | nil => exact fun _ => .inl rfl
  | cons e es ih =>
    intro i
    cases e with
    | w a b =>
      cases hans : ans i with
      | false => exact .inr ⟨[], a, b, es, rfl, hans, by simp [issue, hans]⟩
      | true =>
        rcases ih (i + 1) with h | ⟨pre, a', b', post, rfl, hfail, h⟩
        · exact .inl (by simp [issue, hans, h])
        · have hcount : i + 1 + pre.countP Event.isWrite = i + (Event.w a b :: pre).countP Event.isWrite := by
            rw [List.countP_cons_of_pos rfl]; omega
          exact .inr ⟨.w a b :: pre, a', b', post, rfl, hcount ▸ hfail, by simp [issue, hans, h, hcount]⟩
    | f a b =>
      rcases ih i with h | ⟨pre, a', b', post, rfl, hfail, h⟩
      · exact .inl (by simp [issue, h])
      · exact .inr ⟨.f a b :: pre, a', b', post, rfl, hfail, by simp [issue, h, Event.isWrite]⟩
    | d k =>
      rcases ih i with h | ⟨pre, a', b', post, rfl, hfail, h⟩
      · exact .inl (by simp [issue, h])
      · exact .inr ⟨.d k :: pre, a', b', post, rfl, hfail, by simp [issue, h, Event.isWrite]⟩

/-- Only the answers to the planned writes matter. -/
theorem issue_congr {ans ans' : Nat → Bool} (es : List Event) : ∀ i,
    (∀ j, i ≤ j → j < i + es.countP Event.isWrite → ans j = ans' j) → issue ans i es = issue ans' i es := by
  induction es with
  | nil => exact fun _ _ => rfl
  | cons e es ih =>
    intro i h
    cases e with
    | w a b =>
      rw [List.countP_cons_of_pos rfl] at h
      rw [issue, issue, h i (Nat.le_refl i) (by omega), ih (i + 1) (fun j h1 h2 => h j (by omega) (by omega))]
    | f a b => rw [issue, issue, ih i h] <;> simp
    | d k => rw [issue, issue, ih i h] <;> simp

/-- If every planned write succeeds, the planned trace is the trace. -/
theorem issue_of_all_succeed {ans : Nat → Bool} {es : List Event} (h : ∀ j, j < es.countP Event.isWrite → ans j = true) :
    issue ans 0 es = (es, .ok) := by
  rcases issue_cases ans es 0 with hall | ⟨pre, a, b, post, rfl, hfail, -⟩
  · exact hall
  · have hlt : 0 + pre.countP Event.isWrite < (pre ++ .w a b :: post).countP Event.isWrite := by
      rw [List.countP_append, List.countP_cons_of_pos rfl]; omega
    exact absurd ((h _ hlt).symm.trans hfail) (by decide)

/-! Counting the events of a driver operation (42_display_driver.md R140). -/

/-- The writes of one nibble. -/
def writesPerNibble (cfg : CoreConfig) : Nat := 3 + if cfg.nibbleTrailingWrite then 1 else 0

theorem countP_isWrite_sentPulses (cfg : CoreConfig) (ps : List (Nibble × Mode)) :
    (sentPulses cfg ps).countP Event.isWrite = writesPerNibble cfg * ps.length := by
  induction ps with
  | nil => rfl
  | cons p ps ih =>
    have hone : (sentNibble cfg p.1.toNat p.2).countP Event.isWrite = writesPerNibble cfg := by
      rw [sentNibble_eq, writesPerNibble]
      cases cfg.nibbleTrailingWrite <;> rfl
    rw [sentPulses_cons, List.countP_append, hone, ih, List.length_cons, Nat.mul_succ, Nat.add_comm]

theorem delaysOf_append (k : DelayKind) (es es' : List Event) :
    delaysOf k (es ++ es') = delaysOf k es + delaysOf k es' := List.count_append

theorem delaysOf_sentPulses (cfg : CoreConfig) (ps : List (Nibble × Mode)) :
    delaysOf .settle (sentPulses cfg ps) = 2 * ps.length ∧ delaysOf .pulse (sentPulses cfg ps) = ps.length := by
  induction ps with
  | nil => exact ⟨rfl, rfl⟩
  | cons p ps ih =>
    have hone : delaysOf .settle (sentNibble cfg p.1.toNat p.2) = 2 ∧ delaysOf .pulse (sentNibble cfg p.1.toNat p.2) = 1 := by
      rw [sentNibble_eq]
      cases cfg.nibbleTrailingWrite <;> exact ⟨rfl, rfl⟩
    rw [sentPulses_cons, delaysOf_append, delaysOf_append, hone.1, hone.2, ih.1, ih.2, List.length_cons]
    omega

theorem length_sentPulses (cfg : CoreConfig) (ps : List (Nibble × Mode)) :
    (sentPulses cfg ps).length = (writesPerNibble cfg + 3) * ps.length := by
  induction ps with
  | nil => rfl
  | cons p ps ih =>
    have hone : (sentNibble cfg p.1.toNat p.2).length = writesPerNibble cfg + 3 := by
      rw [sentNibble_eq, writesPerNibble]
      cases cfg.nibbleTrailingWrite <;> rfl
    rw [sentPulses_cons, List.length_append, hone, ih, List.length_cons, Nat.mul_succ, Nat.add_comm]

theorem writesPerNibble_le (cfg : CoreConfig) : writesPerNibble cfg ≤ 4 := by
  unfold writesPerNibble; split <;> omega

theorem Drive.countP_isWrite_events (d : Drive) (cfg : CoreConfig) :
    (d.events cfg).countP Event.isWrite = writesPerNibble cfg * (d.pulsesOf cfg).length := by
  rw [Drive.events, List.countP_append, countP_isWrite_sentPulses]
  cases d.isInit <;> rfl

theorem Drive.countP_isWrite_events_le (d : Drive) (cfg : CoreConfig) :
    (d.events cfg).countP Event.isWrite ≤ 4 * (d.pulsesOf cfg).length := by
  rw [d.countP_isWrite_events]
  exact Nat.mul_le_mul_right _ (writesPerNibble_le cfg)

/-- No operation of the core needs more than 272 answers. -/
theorem Drive.Bounded.answers_le {d : Drive} (h : d.Bounded) (cfg : CoreConfig) : 4 * (d.pulsesOf cfg).length ≤ 272 :=
  Nat.mul_le_mul_left 4 (h cfg.nfLine1 cfg.nfLine2)

/-! The events of a driver operation, one by one. -/

/-- A bus byte of the driver: some nibble in some mode with the backlight bit of the configuration, sent to BUS_ADDR. -/
theorem mem_sentPulses {cfg : CoreConfig} {ps : List (Nibble × Mode)} {e : Event} (h : e ∈ sentPulses cfg ps) :
    (∃ k, e = .d k) ∨ ∃ n m high, e = .w cfg.busAddr (busbyte cfg.backlight n m high) := by
  obtain ⟨p, -, he⟩ := List.mem_flatMap.mp h
  rw [sentNibble_eq, List.mem_append] at he
  rcases he with he | he
  · simp only [List.mem_cons, List.not_mem_nil, or_false] at he
    rcases he with rfl | rfl | rfl | rfl | rfl | rfl
    · exact .inr ⟨_, _, _, rfl⟩
    · exact .inl ⟨_, rfl⟩
    · exact .inr ⟨_, _, _, rfl⟩
    · exact .inl ⟨_, rfl⟩
    · exact .inr ⟨_, _, _, rfl⟩
    · exact .inl ⟨_, rfl⟩
  · split at he
    · exact .inr ⟨_, _, _, List.mem_singleton.mp he⟩
    · cases he

theorem Drive.mem_events {d : Drive} {cfg : CoreConfig} {e : Event} (h : e ∈ d.events cfg) :
    (∃ k, e = .d k) ∨ ∃ n m high, e = .w cfg.busAddr (busbyte cfg.backlight n m high) := by
  rcases List.mem_append.mp h with h | h
  · exact mem_sentPulses h
  · split at h
    · exact .inl ⟨_, List.mem_singleton.mp h⟩
    · cases h

/-- Without the trailing write a driver operation ends with a delay. -/
theorem Drive.events_end (d : Drive) {cfg : CoreConfig} (hcfg : cfg.nibbleTrailingWrite = false) :
    d.events cfg = [] ∨ ∃ es, d.events cfg = es ++ [.d .settle] := by
  unfold Drive.events
  split
  · exact .inr ⟨_, rfl⟩
  · rcases List.eq_nil_or_concat' (d.pulsesOf cfg) with h | ⟨ps, p, h⟩
    · exact .inl (by rw [h]; rfl)
    · have hone := sentNibble_eq cfg p.1 p.2
      rw [hcfg] at hone
      refine .inr ⟨sentPulses cfg ps ++ (sentNibble cfg p.1.toNat p.2).take 5, ?_⟩
      rw [h, sentPulses_append, sentPulses_cons, hone]
      simp [sentPulses]

theorem Drive.events_ne_append_write (d : Drive) {cfg : CoreConfig} (hcfg : cfg.nibbleTrailingWrite = false)
    (pre : List Event) (a : BitVec 7) (b : Byte) : d.events cfg ≠ pre ++ [.w a b] := by
  intro h
  rcases d.events_end hcfg with hes | ⟨es, hes⟩
  · simp [hes] at h
  · have hlast := (List.append_inj' (hes.symm.trans h) rfl).2
    cases hlast

theorem Drive.not_failed_mem_events {d : Drive} {cfg : CoreConfig} (a : BitVec 7) (b : Byte) : .f a b ∉ d.events cfg := by
  intro h
  rcases d.mem_events h with ⟨_, h⟩ | ⟨_, _, _, h⟩ <;> cases h

/-- What a driver operation comes to: all its events and Ok, or its events up to a write that failed, and BusFailure. -/
theorem Drive.issue_cases (d : Drive) (cfg : CoreConfig) (ans : Nat → Bool) :
    issue ans 0 (d.events cfg) = (d.events cfg, .ok) ∨
      ∃ pre b post, d.events cfg = pre ++ .w cfg.busAddr b :: post ∧
        issue ans 0 (d.events cfg) = (pre ++ [.f cfg.busAddr b], .busFailure b (pre.countP Event.isWrite)) := by
  rcases Machine.issue_cases ans (d.events cfg) 0 with h | ⟨pre, a, b, post, hes, -, h⟩
  · exact .inl h
  · have hmem : Event.w a b ∈ d.events cfg := hes ▸ by simp
    rcases d.mem_events hmem with ⟨_, hd⟩ | ⟨_, _, _, hw⟩
    · cases hd
    · obtain rfl : a = cfg.busAddr := by injection hw
      exact .inr ⟨pre, b, post, hes, by simpa using h⟩

/-- Every event it issues is a delay, or a bus byte of the driver, delivered or failed, to BUS_ADDR. -/
theorem Drive.mem_issue {d : Drive} {cfg : CoreConfig} {ans : Nat → Bool} {e : Event}
    (h : e ∈ (issue ans 0 (d.events cfg)).1) : (∃ k, e = .d k) ∨ ∃ n m high,
      e = .w cfg.busAddr (busbyte cfg.backlight n m high) ∨ e = .f cfg.busAddr (busbyte cfg.backlight n m high) := by
  have hall : e ∈ d.events cfg ∨ ∃ b, .w cfg.busAddr b ∈ d.events cfg ∧ e = .f cfg.busAddr b := by
    rcases d.issue_cases cfg ans with hok | ⟨pre, b, post, hes, hfail⟩
    · exact .inl (by rwa [hok] at h)
    · rw [hfail] at h
      rcases List.mem_append.mp h with h | h
      · exact .inl (hes ▸ List.mem_append_left _ h)
      · exact .inr ⟨b, hes ▸ by simp, List.mem_singleton.mp h⟩
  rcases hall with he | ⟨b, hb, rfl⟩
  · exact (d.mem_events he).imp id (fun ⟨n, m, high, h⟩ => ⟨n, m, high, .inl h⟩)
  · rcases d.mem_events hb with ⟨_, hd⟩ | ⟨n, m, high, hw⟩
    · cases hd
    · cases hw; exact .inr ⟨n, m, high, .inr rfl⟩

theorem newEvents_of_append {s t : State} {es : List Event} (h : t.trace = s.trace ++ es) : newEvents s t = es := by
  simp [newEvents, h]

/-! What an executed driver operation has done. -/

section Executed

variable {i : Instr} {s t : State} {d : Drive}

theorem newEvents_of_quiet {r : Result} (h : ReturnsQuietly s t r) : newEvents s t = [] :=
  newEvents_of_append (h.trace.trans (List.append_nil _).symm)

variable (hidle : s.inProgress = false) (hexec : exec i s = accept none (Job.drive d).run s)
include hidle hexec

/-- Its trace and its result are what is issued of its events. -/
theorem issued_of_drive (ht : exec i s = .next t) :
    newEvents s t = (issue s.answerAt 0 (d.events s.cfg)).1 ∧
      t.results = s.results ++ [(issue s.answerAt 0 (d.events s.cfg)).2] ∧ t.inProgress = false := by
  obtain ⟨t', ht', htrace, hresults, -, -, -, -, -, -, -, -, -, hbusy, -⟩ := sendsExactly_of_drive hidle hexec
  obtain rfl : t' = t := by injection ht'.symm.trans ht
  exact ⟨newEvents_of_append htrace, hresults, hbusy.trans hidle⟩

/-- With four successful answers a nibble all of it happens. -/
theorem issued_of_succeeds {n : Nat} (hn : 4 * (d.pulsesOf s.cfg).length ≤ n) (h : s.nextSucceed n) :
    ∃ t, exec i s = .next t ∧ newEvents s t = d.events s.cfg ∧ t.results = s.results ++ [.ok] ∧
      (t.lines, t.display) = deliverAll (delivered (d.events s.cfg)) (s.lines, (d.enter s).display) := by
  have hissue : issue s.answerAt 0 (d.events s.cfg) = (d.events s.cfg, .ok) :=
    issue_of_all_succeed (fun j hj => h j (hj.trans_le ((d.countP_isWrite_events_le s.cfg).trans hn)))
  have ht := hexec.trans (accept_idle hidle)
  obtain ⟨hnew, hresults, -⟩ := issued_of_drive hidle hexec ht
  have htarget := target_of_drive hidle hexec ht
  rw [hissue] at hnew hresults htarget
  exact ⟨_, ht, hnew, hresults, htarget⟩

end Executed

/-- A result is the last one appended. -/
theorem result_eq_of_append {rs : List Result} {r r' : Result} (h : rs ++ [r] = rs ++ [r']) : r = r' := by
  simpa using h

theorem nextSucceed_replicate (s : State) (n : Nat) : { s with answers := List.replicate n true }.nextSucceed n :=
  fun j hj => by simp [State.answerAt, hj]

/-- Settles O39: the trace is cut at the first write that failed; the same operation with successful answers goes on. -/
theorem busFailureCutsTheTrace : Obligations.BusFailureCutsTheTrace := by
  intro i s t ht hfailed
  rcases exec_cases i s.inProgress with ⟨answer, hquiet, h⟩ | ⟨hidle, d, hbounded, h⟩
  · obtain ⟨t', ht', hq⟩ := h s rfl
    obtain rfl : t' = t := by injection ht'.symm.trans ht
    rcases hfailed with ⟨a, b, hmem⟩ | ⟨b, k, hres⟩
    · rw [newEvents_of_quiet hq] at hmem; cases hmem
    · exact absurd (result_eq_of_append (hq.results.symm.trans hres)) ((hquiet s.cfg.sct).2.2 b k)
  · obtain ⟨hnew, hresults, hbusy⟩ := issued_of_drive hidle (h s) ht
    rcases d.issue_cases s.cfg s.answerAt with hok | ⟨pre, b, post, hes, hfail⟩
    · rw [hok] at hnew hresults
      rcases hfailed with ⟨a, b, hmem⟩ | ⟨b, k, hres⟩
      · exact absurd (hnew ▸ hmem) (Drive.not_failed_mem_events a b)
      · exact absurd (result_eq_of_append (hresults.symm.trans hres)) (by simp)
    · rw [hfail] at hnew hresults
      obtain ⟨u, hu, hunew, hures, -⟩ := issued_of_succeeds (s := { s with answers := List.replicate 272 true }) hidle (h _)
        (hbounded.answers_le s.cfg) (nextSucceed_replicate s 272)
      refine ⟨pre, post, u, b, 272, hnew, hresults, hbusy, hu, hures, hunew.trans hes, fun hcfg hpost => ?_⟩
      exact d.events_ne_append_write hcfg pre s.cfg.busAddr b (hpost ▸ hes)

/-- Settles O41. -/
theorem busBytesCarryTheBacklight : Obligations.BusBytesCarryTheBacklight := by
  intro i s t ht e he b hb
  rcases exec_cases i s.inProgress with ⟨answer, -, h⟩ | ⟨hidle, d, -, h⟩
  · obtain ⟨t', ht', hq⟩ := h s rfl
    obtain rfl : t' = t := by injection ht'.symm.trans ht
    rw [newEvents_of_quiet hq] at he; cases he
  · rw [(issued_of_drive hidle (h s) ht).1] at he
    rcases Drive.mem_issue he with ⟨k, rfl⟩ | ⟨n, m, high, rfl | rfl⟩
    · cases hb
    · cases hb; exact ⟨busbyte_bit1 .., busbyte_backlight ..⟩
    · cases hb; exact ⟨busbyte_bit1 .., busbyte_backlight ..⟩

/-- Settles O43: the events and the result are those issued under the same answers, or those the table decides. -/
theorem nothingIsRememberedBetweenOperations : Obligations.NothingIsRememberedBetweenOperations := by
  intro i s1 s2 hcfg hbusy hans
  rcases exec_cases i s1.inProgress with ⟨answer, -, h⟩ | ⟨hidle, d, hbounded, h⟩
  · obtain ⟨t1, ht1, hq1⟩ := h s1 rfl
    obtain ⟨t2, ht2, hq2⟩ := h s2 hbusy.symm
    exact ⟨t1, t2, _, [], ht1, ht2, by simpa using hq1.trace, by simpa using hq2.trace, hq1.results, hcfg ▸ hq2.results⟩
  · obtain ⟨t1, ht1, htrace1, hresults1, -⟩ := sendsExactly_of_drive hidle (h s1)
    obtain ⟨t2, ht2, htrace2, hresults2, -⟩ := sendsExactly_of_drive (hbusy ▸ hidle) (h s2)
    have hissue : issue s1.answerAt 0 (d.events s1.cfg) = issue s2.answerAt 0 (d.events s2.cfg) := by
      rw [← hcfg]
      refine issue_congr _ 0 (fun j _ hj => hans j ?_)
      have hle := (d.countP_isWrite_events_le s1.cfg).trans (hbounded.answers_le s1.cfg)
      omega
    exact ⟨t1, t2, _, _, ht1, ht2, htrace1, hissue ▸ htrace2, hresults1, hissue ▸ hresults2⟩

/-! The sizes of completed traces. -/

/-- The numbers of writes and delays of a completed operation of `n` nibbles, and what follows from them. -/
theorem sizes_of_drive {i : Instr} {s : State} {d : Drive} (hidle : s.inProgress = false)
    (hexec : exec i s = accept none (Job.drive d).run s) (hbounded : d.Bounded) (hsucceed : s.nextSucceed 272)
    {n writes settles pulses : Nat} (hn : (d.pulsesOf s.cfg).length = n) (hwrites : writes = writesPerNibble s.cfg * n)
    (hsettles : settles = 2 * n + if d.isInit then 1 else 0) (hpulses : pulses = n) :
    ∃ t, exec i s = .next t ∧ t.results = s.results ++ [.ok] ∧
      (newEvents s t).countP Event.isWrite = writes ∧ delaysOf .settle (newEvents s t) = settles ∧
      delaysOf .pulse (newEvents s t) = pulses ∧ (newEvents s t).length = writes + settles + pulses ∧
      leastDuration s.cfg (newEvents s t) = settles * s.cfg.tSettle + pulses * s.cfg.tPulse := by
  obtain ⟨t, ht, hnew, hres, -⟩ := issued_of_succeeds hidle hexec (hbounded.answers_le s.cfg) hsucceed
  have htail : ∀ k, delaysOf k (if d.isInit then [Event.d .settle] else []) =
      if k = .settle then (if d.isInit then 1 else 0) else 0 := fun k => by cases k <;> cases d.isInit <;> rfl
  have hS : delaysOf .settle (newEvents s t) = settles := by
    rw [hnew, Drive.events, delaysOf_append, (delaysOf_sentPulses _ _).1, hn, htail, hsettles]; rfl
  have hP : delaysOf .pulse (newEvents s t) = pulses := by
    rw [hnew, Drive.events, delaysOf_append, (delaysOf_sentPulses _ _).2, hn, htail, hpulses]; rfl
  refine ⟨t, ht, hres, ?_, hS, hP, ?_, by rw [leastDuration, hS, hP]⟩
  · rw [hnew, d.countP_isWrite_events, hn, hwrites]
  · have hlen : (if d.isInit then [Event.d .settle] else []).length = if d.isInit then 1 else 0 := by
      cases d.isInit <;> rfl
    rw [hnew, Drive.events, List.length_append, length_sentPulses, hn, hlen, hwrites, hsettles, hpulses, Nat.add_mul]
    omega

theorem exists_lineCommand {line : LineSel} (h : lineOk line = true) : ∃ address, lineCommand line = some address := by
  have hpre := linePrecondition_eq_none h
  cases hc : lineCommand line with
  | some address => exact ⟨address, rfl⟩
  | none => simp [linePrecondition, hc] at hpre

/-- Settles O40: the nibbles of each operation are counted. -/
theorem completedTracesHaveTheirSizes : Obligations.CompletedTracesHaveTheirSizes := by
  intro s n v slot m text title price bitmap line hidle hsucceed hn hslot hbitmap hline extra
  obtain ⟨address, haddress⟩ := exists_lineCommand hline
  have hper : writesPerNibble s.cfg = 3 + extra := rfl
  have hglyph : (bytePulses .command (glyphCommand (slot.setWidth 3)) ++ bytesPulses .character bitmap).length = 18 := by
    simp [length_bytesPulses, bytePulses, hbitmap]
  simp only [List.forall_mem_cons]
  refine ⟨?_, ?_, ?_, ?_, ?_, ?_, ?_, fun _ h => nomatch h⟩
  · exact sizes_of_drive hidle ((exec_writeNibble s n m).trans (by rw [nibblePrecondition_eq_none hn]))
      (Drive.sending_bounded (by simp)) hsucceed rfl (by simp [hper, Drive.pulsesOf, Drive.sending]) rfl rfl
  · exact sizes_of_drive hidle (exec_writeByte s v m) (Drive.sending_bounded (by simp [bytePulses])) hsucceed
      (n := 2) rfl (by rw [hper]; omega) rfl rfl
  · exact sizes_of_drive hidle (exec_init s) Drive.init_bounded hsucceed (n := 12) rfl (by rw [hper]; omega) rfl rfl
  · exact sizes_of_drive hidle (exec_writeString s text haddress) (Drive.sending_bounded (by simp [length_linePulses]))
      hsucceed (length_linePulses address text) (by rw [hper]; omega) rfl rfl
  · exact sizes_of_drive hidle
      ((exec_defineGlyph s slot bitmap).trans (by rw [glyphPrecondition_eq_none hslot hbitmap]))
      (Drive.sending_bounded (by omega)) hsucceed hglyph (by rw [hper]; omega) rfl rfl
  · exact sizes_of_drive hidle (exec_showProduct s title price) (Drive.sending_bounded (by simp [length_linePulses]))
      hsucceed (n := 68) (by simp [Drive.pulsesOf, Drive.sending, length_linePulses]) (by rw [hper]; omega) rfl rfl
  · exact sizes_of_drive hidle (exec_showNotFound s) Drive.notFound_bounded hsucceed (n := 68)
      (by simp [Drive.pulsesOf, Drive.notFound, length_linePulses]) (by rw [hper]; omega) rfl rfl

/-! The lines and the controller. -/

theorem deliverAll_lines (bs : List Byte) : ∀ p, (deliverAll bs p).1 = (bs.getLast?).or p.1 := by
  induction bs with
  | nil => intro p; rfl
  | cons b bs ih => intro p; rw [deliverAll, ih]; cases bs <;> simp [List.getLast?_cons]

/-- Settles O44. -/
theorem linesHoldTheLastDeliveredByte : Obligations.LinesHoldTheLastDeliveredByte := by
  intro i s t ht
  rcases exec_cases i s.inProgress with ⟨answer, -, h⟩ | ⟨hidle, d, -, h⟩
  · obtain ⟨t', ht', hq⟩ := h s rfl
    obtain rfl : t' = t := by injection ht'.symm.trans ht
    rw [newEvents_of_quiet hq]
    exact ⟨fun _ => hq.lines, fun ⟨_, _, hmem⟩ => nomatch hmem⟩
  · have hnew := (issued_of_drive hidle (h s) ht).1
    have htarget := target_of_drive hidle (h s) ht
    rcases d.issue_cases s.cfg s.answerAt with hok | ⟨pre, b, post, -, hfail⟩
    · rw [hok] at hnew htarget
      have hlines := (congrArg Prod.fst htarget).trans (deliverAll_lines _ _)
      rw [hnew]
      refine ⟨fun _ => hlines.trans ?_, fun ⟨a, b, hmem⟩ => absurd hmem (Drive.not_failed_mem_events a b)⟩
      cases (delivered (d.events s.cfg)).getLast? <;> rfl
    · rw [hfail] at hnew htarget
      rw [hnew]
      exact ⟨fun hno => absurd (by simp) (hno s.cfg.busAddr b), fun _ => congrArg Prod.fst htarget⟩

/-- Settles O45. -/
theorem busFailureLosesTheController : Obligations.BusFailureLosesTheController := by
  intro i s t b k ht hres
  rcases exec_cases i s.inProgress with ⟨answer, hquiet, h⟩ | ⟨hidle, d, -, h⟩
  · obtain ⟨t', ht', hq⟩ := h s rfl
    obtain rfl : t' = t := by injection ht'.symm.trans ht
    exact absurd (result_eq_of_append (hq.results.symm.trans hres)) ((hquiet s.cfg.sct).2.2 b k)
  · have hresults := (issued_of_drive hidle (h s) ht).2.1
    have htarget := target_of_drive hidle (h s) ht
    rw [result_eq_of_append (hresults.symm.trans hres), if_neg (by simp)] at htarget
    exact ⟨congrArg Prod.snd htarget, congrArg Prod.fst htarget⟩

/-! The two readings of writeNibble (42_display_driver.md R132; D11). -/

/-- The configuration with the fourth write of a nibble or without it. -/
def CoreConfig.withTrailing (cfg : CoreConfig) (trailing : Bool) : CoreConfig :=
  { cfg with nibbleTrailingWrite := trailing }

theorem delivered_append (es es' : List Event) : delivered (es ++ es') = delivered es ++ delivered es' := by
  induction es with
  | nil => rfl
  | cons e es ih => cases e <;> simp [delivered, ih]

/-- The bytes of a nibble, the last one twice or once. -/
theorem delivered_sentNibble (cfg : CoreConfig) (trailing : Bool) (n : Nibble) (m : Mode) :
    delivered (sentNibble (cfg.withTrailing trailing) n.toNat m) =
      [busbyte cfg.backlight n m false, busbyte cfg.backlight n m true, busbyte cfg.backlight n m false] ++
        if trailing then [busbyte cfg.backlight n m false] else [] := by
  rw [sentNibble_eq]
  cases trailing <;> rfl

theorem delivered_sentPulses_cons (cfg : CoreConfig) (p : Nibble × Mode) (ps : List (Nibble × Mode)) :
    delivered (sentPulses cfg (p :: ps)) =
      delivered (sentNibble cfg p.1.toNat p.2) ++ delivered (sentPulses cfg ps) := by
  rw [sentPulses_cons, delivered_append]

theorem distinctConsecutive_dup (b : Byte) (bs : List Byte) :
    distinctConsecutive (b :: b :: bs) = distinctConsecutive (b :: bs) := if_pos rfl

/-- What comes before a byte does not tell apart what comes from that byte on. -/
theorem distinctConsecutive_congr (b : Byte) {bs bs' : List Byte}
    (h : distinctConsecutive (b :: bs) = distinctConsecutive (b :: bs')) (pre : List Byte) :
    distinctConsecutive (pre ++ b :: bs) = distinctConsecutive (pre ++ b :: bs') := by
  induction pre with
  | nil => exact h
  | cons x pre ih =>
    cases pre with
    | nil => simp only [List.cons_append, List.nil_append, distinctConsecutive, h]
    | cons y pre => simp only [List.cons_append, distinctConsecutive] at ih ⊢; rw [ih]

/-- The fourth write of a nibble repeats the byte before it. -/
theorem distinctConsecutive_sentNibble (cfg : CoreConfig) (n : Nibble) (m : Mode) (pre : List Byte) {bs bs' : List Byte}
    (h : ∀ c, distinctConsecutive (c :: bs) = distinctConsecutive (c :: bs')) :
    distinctConsecutive (pre ++ (delivered (sentNibble (cfg.withTrailing false) n.toNat m) ++ bs)) =
      distinctConsecutive (pre ++ (delivered (sentNibble (cfg.withTrailing true) n.toNat m) ++ bs')) := by
  let low := busbyte cfg.backlight n m false
  have hlow : distinctConsecutive (low :: bs) = distinctConsecutive (low :: low :: bs') :=
    (h low).trans (distinctConsecutive_dup low bs').symm
  rw [delivered_sentNibble, delivered_sentNibble]
  simpa using distinctConsecutive_congr low hlow (pre ++ [low, busbyte cfg.backlight n m true])

/-- After any bytes, the nibbles sent with the fourth write and without it have the same distinct consecutive bytes. -/
theorem distinctConsecutive_sentPulses (cfg : CoreConfig) (ps : List (Nibble × Mode)) : ∀ pre,
    distinctConsecutive (pre ++ delivered (sentPulses (cfg.withTrailing false) ps)) =
      distinctConsecutive (pre ++ delivered (sentPulses (cfg.withTrailing true) ps)) := by
  induction ps with
  | nil => exact fun _ => rfl
  | cons p ps ih =>
    intro pre
    rw [delivered_sentPulses_cons, delivered_sentPulses_cons]
    exact distinctConsecutive_sentNibble cfg p.1 p.2 pre (fun c => ih [c])

/-- A byte that does not lower the enable line is no strobe (60_exceptions.md R191). -/
theorem Display.onWrite_of_no_edge {old b : Byte} (d : Display) (h : b.getLsbD 2 = true ∨ old.getLsbD 2 = false) :
    d.onWrite (some old) b = d := by
  unfold Display.onWrite
  rcases h with h | h
  · exact if_pos h
  · simp only [h]
    exact ite_self _

/-- A byte with the enable line low that is on the lines already changes nothing. -/
theorem deliverAll_repeated {b : Byte} (hb : b.getLsbD 2 = false) {p : Option Byte × Option Display} (hp : p.1 = some b) :
    deliverAll [b] p = p := by
  obtain ⟨lines, display⟩ := p
  subst hp
  have hsame : Display.onWrite (some b) b = id := funext (fun d => d.onWrite_of_no_edge (.inr hb))
  simp [deliverAll, hsame]

theorem deliverAll_sentNibble_trailing (cfg : CoreConfig) (n : Nibble) (m : Mode) (p : Option Byte × Option Display) :
    deliverAll (delivered (sentNibble (cfg.withTrailing true) n.toNat m)) p =
      deliverAll (delivered (sentNibble (cfg.withTrailing false) n.toNat m)) p := by
  rw [delivered_sentNibble, delivered_sentNibble, if_pos rfl, if_neg (by decide), List.append_nil, deliverAll_append]
  exact deliverAll_repeated (busbyte_enable ..) (deliverAll_lines _ _)

theorem Drive.enter_display (d : Drive) (s : State) :
    (d.enter s).display = if d.isInit then startFollowing s.display else s.display := by
  unfold Drive.enter; split <;> rfl

theorem deliverAll_sentPulses_trailing (cfg : CoreConfig) (ps : List (Nibble × Mode)) : ∀ p,
    deliverAll (delivered (sentPulses (cfg.withTrailing true) ps)) p =
      deliverAll (delivered (sentPulses (cfg.withTrailing false) ps)) p := by
  induction ps with
  | nil => exact fun _ => rfl
  | cons q ps ih =>
    intro p
    rw [delivered_sentPulses_cons, delivered_sentPulses_cons, deliverAll_append, deliverAll_append,
      deliverAll_sentNibble_trailing, ih]

theorem delivered_events (d : Drive) (cfg : CoreConfig) :
    delivered (d.events cfg) = delivered (sentPulses cfg (d.pulsesOf cfg)) := by
  rw [Drive.events, delivered_append]
  cases d.isInit <;> exact List.append_nil _

/-- Settles O42. -/
theorem trailingWriteIsInvisibleToTheTarget : Obligations.TrailingWriteIsInvisibleToTheTarget := by
  intro i s hsucceed
  rcases exec_cases i s.inProgress with ⟨answer, -, h⟩ | ⟨hidle, d, hbounded, h⟩
  · obtain ⟨t1, ht1, hq1⟩ := h { s with cfg := s.cfg.withTrailing false } rfl
    obtain ⟨t2, ht2, hq2⟩ := h { s with cfg := s.cfg.withTrailing true } rfl
    refine ⟨t1, t2, ht1, ht2, ?_, hq1.lines.trans hq2.lines.symm, hq1.display.trans hq2.display.symm⟩
    have h1 := newEvents_of_quiet hq1
    have h2 := newEvents_of_quiet hq2
    exact (congrArg (distinctConsecutive <| delivered ·) (h1.trans h2.symm))
  · obtain ⟨t1, ht1, hnew1, -, htarget1⟩ := issued_of_succeeds (s := { s with cfg := s.cfg.withTrailing false }) hidle (h _)
      (hbounded.answers_le _) hsucceed
    obtain ⟨t2, ht2, hnew2, -, htarget2⟩ := issued_of_succeeds (s := { s with cfg := s.cfg.withTrailing true }) hidle (h _)
      (hbounded.answers_le _) hsucceed
    have hbytes : distinctConsecutive (delivered (d.events (s.cfg.withTrailing false))) =
        distinctConsecutive (delivered (d.events (s.cfg.withTrailing true))) := by
      rw [delivered_events, delivered_events]
      exact distinctConsecutive_sentPulses s.cfg (d.pulsesOf s.cfg) []
    have htarget : (t1.lines, t1.display) = (t2.lines, t2.display) := by
      rw [htarget1, htarget2, delivered_events, delivered_events, Drive.enter_display, Drive.enter_display]
      exact (deliverAll_sentPulses_trailing s.cfg (d.pulsesOf s.cfg) _).symm
    refine ⟨t1, t2, ht1, ht2, ?_, congrArg Prod.fst htarget, congrArg Prod.snd htarget⟩
    exact (congrArg (distinctConsecutive <| delivered ·) hnew1).trans
      (hbytes.trans (congrArg (distinctConsecutive <| delivered ·) hnew2).symm)

end Sys2Proof.Machine

/-! The invariant: nothing the core does, and no byte it delivers, breaks it. -/

namespace Sys2Proof.Machine

/-! The controller's memories stay canonical. -/

theorem Display.inv_of_memories {d d' : Display} (h : d.inv) (hd : d'.ddram = d.ddram) (hc : d'.cgram = d.cgram) :
    d'.inv := by
  obtain ⟨h1, h2, h3⟩ := h
  exact ⟨hd ▸ h1, hc ▸ h2, hd ▸ h3⟩

theorem ddramExists_iff (a : BitVec 7) : ddramExists a = true ↔ a.toNat < 0x28 ∨ (0x40 ≤ a.toNat ∧ a.toNat < 0x68) := by
  simp [ddramExists]

theorem ddramCleared_exists : ∀ cell ∈ ddramCleared, cell.1 < 0x28 ∨ (0x40 ≤ cell.1 ∧ cell.1 < 0x68) := by decide

theorem Display.dataByte_inv {d : Display} (b : Option Byte) (h : d.inv) : (d.dataByte b).inv := by
  obtain ⟨hd, hc, hexists⟩ := h
  unfold Display.dataByte
  split
  · next a _ =>
    refine ⟨?_, hc, ?_⟩
    · dsimp only
      split
      · exact Memory.store_wf b a.isLt hd
      · rfl
    · intro x y hmem
      dsimp only at hmem
      split at hmem
      · next ha =>
        rcases Memory.mem_store hmem with ⟨rfl, -⟩ | hmem
        · exact (ddramExists_iff a).mp ha
        · exact hexists x y hmem
      · cases hmem
  · next a _ => exact ⟨hd, Memory.store_wf b a.isLt hc, hexists⟩
  · exact ⟨rfl, hc, fun _ _ h => nomatch h⟩
  · exact ⟨hd, rfl, hexists⟩
  · exact ⟨rfl, rfl, fun _ _ h => nomatch h⟩

/-- A command leaves display memory as it is, clears it, or leaves nothing known of it (60_exceptions.md R193). -/
theorem Display.command_ddram (b : Byte) (d : Display) :
    (d.command b).ddram = d.ddram ∨ (d.command b).ddram = ddramCleared ∨ (d.command b).ddram = [] := by
  simp only [Display.command]
  split_ifs <;> simp [Display.unknown]

theorem Display.command_inv {d : Display} (b : Byte) (h : d.inv) : (d.command b).inv := by
  obtain ⟨hd, hc, hexists⟩ := h
  refine ⟨?_, by rwa [Display.command_cgram], fun x y hmem => ?_⟩
  · rcases d.command_ddram b with h | h | h
    · rwa [h]
    · rw [h]; exact ddramCleared_wf
    · rw [h]; rfl
  · rcases d.command_ddram b with h | h | h
    · exact hexists x y (h ▸ hmem)
    · exact ddramCleared_exists (x, y) (h ▸ hmem)
    · rw [h] at hmem; cases hmem

theorem Display.wholeCommand_ddram (n : Nibble) (d : Display) :
    (d.wholeCommand n).ddram = d.ddram ∨ (d.wholeCommand n).ddram = [] := by
  simp only [Display.wholeCommand]
  split_ifs <;> simp [Display.unknown]

theorem Display.wholeCommand_inv {d : Display} (n : Nibble) (h : d.inv) : (d.wholeCommand n).inv := by
  obtain ⟨hd, hc, hexists⟩ := h
  refine ⟨?_, by rwa [Display.wholeCommand_cgram], fun x y hmem => ?_⟩
  · rcases d.wholeCommand_ddram n with h | h
    · rwa [h]
    · rw [h]; rfl
  · rcases d.wholeCommand_ddram n with h | h
    · exact hexists x y (h ▸ hmem)
    · rw [h] at hmem; cases hmem

theorem Display.agree_inv {d : Display} (i : Iface) (d' : Display) (h : d.inv) : (Display.agree i d d').inv := by
  obtain ⟨hd, hc, hexists⟩ := h
  exact ⟨Memory.agree_wf d'.ddram hd, Memory.agree_wf d'.cgram hc, fun x y hmem => hexists x y (Memory.mem_agree hmem).1⟩

theorem strobeUnsynced_inv (k : Nat) (n : Nibble) (rs : Bool) : (strobeUnsynced k n rs).inv := by
  unfold strobeUnsynced
  split_ifs
  · exact Display.unknown_inv _
  · exact Display.unknown_inv _
  · exact Display.unknown_inv _

theorem Display.lowerHalf_inv {d : Display} (hi : Nibble) (rsHi : Bool) (n : Nibble) (rs : Bool) (h : d.inv) :
    (d.lowerHalf hi rsHi n rs).inv := by
  have h4 : ({ d with iface := .four } : Display).inv := Display.inv_of_memories h rfl rfl
  unfold Display.lowerHalf
  split_ifs
  · exact Display.dataByte_inv _ h4
  · exact Display.command_inv _ h4
  · exact Display.agree_inv _ _ (Display.command_inv _ h4)

theorem Display.strobe_inv {d : Display} (n : Nibble) (rs : Bool) (h : d.inv) : (d.strobe n rs).inv := by
  unfold Display.strobe
  split
  · exact strobeUnsynced_inv _ _ _
  · split
    · exact Display.dataByte_inv none h
    · exact Display.wholeCommand_inv n h
  · exact Display.inv_of_memories h rfl rfl
  · exact Display.lowerHalf_inv _ _ n rs h

theorem Display.onWrite_inv {d : Display} (old : Option Byte) (b : Byte) (h : d.inv) : (d.onWrite old b).inv := by
  unfold Display.onWrite
  split
  · exact h
  · split
    · exact Display.unknown_inv _
    · split_ifs
      · exact Display.unknown_inv _
      · exact Display.strobe_inv _ _ h
      · exact h

/-- Whatever bytes are delivered, a controller with the invariant keeps it. -/
theorem deliverAll_inv (bs : List Byte) : ∀ {p : Option Byte × Option Display}, (∀ d, p.2 = some d → d.inv) →
    ∀ d, (deliverAll bs p).2 = some d → d.inv := by
  induction bs with
  | nil => exact fun h => h
  | cons b bs ih =>
    intro p h
    refine ih (fun d hd => ?_)
    obtain ⟨d0, hd0, rfl⟩ := Option.map_eq_some_iff.mp hd
    exact Display.onWrite_inv p.1 b (h d0 hd0)

theorem Drive.enter_inv (d : Drive) {s : State} (h : ∀ d0, s.display = some d0 → d0.inv) :
    ∀ d0, (d.enter s).display = some d0 → d0.inv := by
  intro d0 hd0
  rw [Drive.enter_display] at hd0
  split at hd0
  · cases hs : s.display with
    | none =>
      obtain rfl : Display.unknown (.unsynced 0) = d0 := Option.some_inj.mp (by rwa [hs] at hd0)
      exact Display.unknown_inv _
    | some d1 =>
      obtain rfl : d1 = d0 := Option.some_inj.mp (by rwa [hs] at hd0)
      exact h d1 hs
  · exact h d0 hd0

/-! Every instruction and every step. -/

theorem inv_of_quiet {s t : State} {r : Result} (h : s.Inv) (hq : ReturnsQuietly s t r) (hr : r.inv) : t.Inv := by
  obtain ⟨hresult, hwrites, htrace, hresults, hdisplay⟩ := h
  refine ⟨hq.result hresult, hq.opWrites hwrites, ?_, ?_, hq.display ▸ hdisplay⟩
  · rw [hq.trace, hq.cfg]; exact htrace
  · rw [hq.results]
    intro r' hr'
    rcases List.mem_append.mp hr' with hr' | hr'
    · exact hresults r' hr'
    · rwa [List.mem_singleton.mp hr']

theorem Drive.inv_result_issue (d : Drive) (cfg : CoreConfig) (ans : Nat → Bool) :
    (issue ans 0 (d.events cfg)).2.inv := by
  rcases d.issue_cases cfg ans with h | ⟨_, _, _, -, h⟩ <;> rw [h] <;> trivial

theorem inv_of_drive {i : Instr} {s t : State} {d : Drive} (h : s.Inv) (hidle : s.inProgress = false)
    (hexec : exec i s = accept none (Job.drive d).run s) (ht : exec i s = .next t) : t.Inv := by
  obtain ⟨hresult, hwrites, htrace, hresults, hdisplay⟩ := h
  obtain ⟨t', ht', htrace', hresults', -, hseq, hops, -, -, -, -, hresult', hcfg, -⟩ := sendsExactly_of_drive hidle hexec
  obtain rfl : t' = t := by injection ht'.symm.trans ht
  refine ⟨hresult'.trans hresult, by rw [hops, hseq]; exact List.countP_le_length, fun a b hmem => ?_, fun r hr => ?_,
    fun d0 hd0 => ?_⟩
  · rw [htrace', List.mem_append, List.mem_append] at hmem
    rw [hcfg]
    have hold : Event.w a b ∈ s.trace ∨ Event.f a b ∈ s.trace → b.getLsbD 1 = false ∧ a = s.cfg.busAddr := htrace a b
    have hnew : ∀ e ∈ (issue s.answerAt 0 (d.events s.cfg)).1, e = .w a b ∨ e = .f a b →
        b.getLsbD 1 = false ∧ a = s.cfg.busAddr := by
      intro e he hab
      rcases Drive.mem_issue he with ⟨k, rfl⟩ | ⟨n, m, high, rfl | rfl⟩
      · simp at hab
      · obtain ⟨rfl, rfl⟩ : s.cfg.busAddr = a ∧ busbyte s.cfg.backlight n m high = b := by simpa using hab
        exact ⟨busbyte_bit1 .., rfl⟩
      · obtain ⟨rfl, rfl⟩ : s.cfg.busAddr = a ∧ busbyte s.cfg.backlight n m high = b := by simpa using hab
        exact ⟨busbyte_bit1 .., rfl⟩
    rcases hmem with (hmem | hmem) | (hmem | hmem)
    · exact hold (.inl hmem)
    · exact hnew _ hmem (.inl rfl)
    · exact hold (.inr hmem)
    · exact hnew _ hmem (.inr rfl)
  · rw [hresults'] at hr
    rcases List.mem_append.mp hr with hr | hr
    · exact hresults r hr
    · rw [List.mem_singleton.mp hr]; exact d.inv_result_issue s.cfg s.answerAt
  · have htarget := congrArg Prod.snd (target_of_drive hidle hexec ht)
    rw [hd0] at htarget
    split at htarget
    · exact deliverAll_inv _ (Drive.enter_inv d hdisplay) d0 htarget.symm
    · cases htarget

theorem exec_inv {i : Instr} {s t : State} (h : s.Inv) (ht : exec i s = .next t) : t.Inv := by
  rcases exec_cases i s.inProgress with ⟨answer, hquiet, hcase⟩ | ⟨hidle, d, -, hcase⟩
  · obtain ⟨t', ht', hq⟩ := hcase s rfl
    obtain rfl : t' = t := by injection ht'.symm.trans ht
    exact inv_of_quiet h hq (hquiet s.cfg.sct).1
  · exact inv_of_drive h hidle (hcase s) ht

/-- Settles O3: an idle step and a refusal change nothing the invariant speaks of, and every instruction keeps it. -/
theorem everyStepKeepsTheInvariant : Obligations.EveryStepKeepsTheInvariant := by
  intro s t h ht
  rcases step_next_cases ht with rfl | ⟨r, rest, -, rfl⟩ | ⟨r, rest, i, -, -, hexec⟩
  · exact h
  · exact inv_of_quiet (s := s.taken r rest) h (returnsQuietly_refused _ .badOp) trivial
  · exact exec_inv (s := s.taken r rest) h hexec

end Sys2Proof.Machine

/-! What the bytes of an operation whose writes all succeed do to the expander's lines and to the controller behind them, by the
receiver reference (60_exceptions.md R190 to R194; Log 12). -/

namespace Sys2Proof.Machine

/-! Strobes. -/

/-- The controller after the strobes of some nibbles. -/
def strobes : List (Nibble × Mode) → Display → Display
  | [], d => d
  | p :: ps, d => strobes ps (d.strobe p.1 (decide (p.2 = .character)))

theorem strobes_append (ps qs : List (Nibble × Mode)) : ∀ d, strobes (ps ++ qs) d = strobes qs (strobes ps d) := by
  induction ps with
  | nil => exact fun _ => rfl
  | cons p ps ih => exact fun d => ih _

/-- The bytes of a nibble from any lines on: one strobe of the controller that the first byte left. -/
theorem deliverAll_sentNibble (cfg : CoreConfig) (n : Nibble) (m : Mode) (lines : Option Byte) (d : Display) :
    deliverAll (delivered (sentNibble cfg n.toNat m)) (lines, some d) =
      (some (busbyte cfg.backlight n m false),
        some ((d.onWrite lines (busbyte cfg.backlight n m false)).strobe n (decide (m = .character)))) := by
  let low := busbyte cfg.backlight n m false
  have hlow : low.getLsbD 2 = false := busbyte_enable ..
  have hone := deliverAll_nibble cfg.backlight n m low (d.onWrite lines low) hlow
  rw [enableHigh_busbyte, enableLow_busbyte] at hone
  have hfirst : deliverAll [low, busbyte cfg.backlight n m true, low] (lines, some d) =
      (some low, some ((d.onWrite lines low).strobe n (decide (m = .character)))) := by
    rw [← hone]
    simp [deliverAll, low, Display.onWrite_of_no_edge _ (.inr hlow)]
  have htrailing : delivered (sentNibble cfg n.toNat m) =
      [low, busbyte cfg.backlight n m true, low] ++ if cfg.nibbleTrailingWrite then [low] else [] :=
    delivered_sentNibble cfg cfg.nibbleTrailingWrite n m
  rw [htrailing, deliverAll_append, hfirst]
  split
  · exact deliverAll_repeated hlow rfl
  · rfl

/-- The bytes of some nibbles, the enable line low before them. -/
theorem deliverAll_sentPulses (cfg : CoreConfig) (ps : List (Nibble × Mode)) : ∀ {old : Byte} (d : Display),
    old.getLsbD 2 = false → ∃ b : Byte, b.getLsbD 2 = false ∧
      deliverAll (delivered (sentPulses cfg ps)) (some old, some d) = (some b, some (strobes ps d)) := by
  induction ps with
  | nil => exact fun d hold => ⟨_, hold, rfl⟩
  | cons p ps ih =>
    intro old d hold
    rw [delivered_sentPulses_cons, deliverAll_append, deliverAll_sentNibble,
      d.onWrite_of_no_edge (.inr hold)]
    exact ih _ (busbyte_enable ..)

/-! Driver operations whose writes all succeed. -/

theorem Drive.countP_isBus_events (d : Drive) (cfg : CoreConfig) :
    (d.events cfg).countP Event.isBus = (d.events cfg).countP Event.isWrite :=
  List.countP_congr (fun e he => by
    rcases d.mem_events he with ⟨k, rfl⟩ | ⟨n, m, high, rfl⟩
    · simp [Event.isBus, Event.isWrite]
    · simp [Event.isBus, Event.isWrite])

/-- The answers that are left are those to come, counted on. -/
theorem State.answerAt_of_dropped {s t : State} {k : Nat} (hanswers : t.answers = s.answers.drop k)
    (hcount : t.busCount = s.busCount + k) (j : Nat) : t.answerAt j = s.answerAt (k + j) := by
  simp [State.answerAt, hanswers, hcount, Nat.add_assoc]

/-- What one operation leaves for the next: an idle core of the same configuration, and the answers it has not used. -/
def LeavesAnswers (s t : State) (n : Nat) : Prop := t.inProgress = false ∧ t.cfg = s.cfg ∧ t.nextSucceed n

section Succeeding

variable {i : Instr} {s : State} {n : Nat} (hidle : s.inProgress = false) (hsucceed : s.nextSucceed n)
include hidle hsucceed

theorem leavesAnswers_of_drive {d : Drive} (hexec : exec i s = accept none (Job.drive d).run s)
    (hn : 4 * (d.pulsesOf s.cfg).length ≤ n) {t : State} (ht : exec i s = .next t) :
    LeavesAnswers s t (n - 4 * (d.pulsesOf s.cfg).length) := by
  obtain ⟨t', ht', -, -, -, -, -, hanswers, hcount, -, -, -, hcfg, hbusy, -⟩ := sendsExactly_of_drive hidle hexec
  obtain rfl : t' = t := by injection ht'.symm.trans ht
  have hle := d.countP_isWrite_events_le s.cfg
  have hissue : issue s.answerAt 0 (d.events s.cfg) = (d.events s.cfg, .ok) :=
    issue_of_all_succeed (fun j hj => hsucceed j (hj.trans_le (hle.trans hn)))
  rw [hissue, d.countP_isBus_events] at hanswers hcount
  refine ⟨hbusy.trans hidle, hcfg, fun j hj => ?_⟩
  rw [State.answerAt_of_dropped hanswers hcount]
  exact hsucceed _ (by omega)

/-- Nibbles sent to a known controller with the enable line low are its strobes. -/
theorem exec_sending {ps : List (Nibble × Mode)} {d : Display} (hdisplay : s.display = some d) (hlow : s.enableIsLow)
    (hexec : exec i s = accept none (Job.drive (.sending ps)).run s) (hn : 4 * ps.length ≤ n) :
    ∃ t, exec i s = .next t ∧ t.display = some (strobes ps d) ∧ t.enableIsLow ∧
      LeavesAnswers s t (n - 4 * ps.length) := by
  obtain ⟨t, ht, -, -, htarget⟩ := issued_of_succeeds hidle hexec hn hsucceed
  obtain ⟨old, hlines, hold⟩ := hlow
  obtain ⟨b, hb, hdeliver⟩ := deliverAll_sentPulses s.cfg ps d hold
  have hdrive : (t.lines, t.display) = (some b, some (strobes ps d)) := by
    rw [htarget, Drive.sending_events, hlines]
    exact (congrArg _ (congrArg _ hdisplay)).trans hdeliver
  exact ⟨t, ht, congrArg Prod.snd hdrive, ⟨b, congrArg Prod.fst hdrive, hb⟩,
    leavesAnswers_of_drive hidle hsucceed hexec hn ht⟩

end Succeeding

/-! Controller bytes. -/

/-- A whole byte taken between two bytes. -/
def Display.byte (m : Mode) (v : Byte) (d : Display) : Display :=
  match m with
  | .command => d.command v
  | .character => d.data v

theorem strobes_bytePulses (m : Mode) (v : Byte) {d : Display} (h : d.iface = .four) :
    strobes (bytePulses m v) d = d.byte m v :=
  (strobe_strobe v m d h).trans (by cases m <;> rfl)

/-- The controller after some data bytes. -/
def Display.dataBytes : List Byte → Display → Display
  | [], d => d
  | v :: vs, d => Display.dataBytes vs (d.data v)

theorem strobes_bytesPulses_character (vs : List Byte) : ∀ {d : Display}, d.iface = .four →
    strobes (bytesPulses .character vs) d = d.dataBytes vs := by
  induction vs with
  | nil => exact fun _ => rfl
  | cons v vs ih =>
    intro d h
    have hdata : (d.data v).iface = .four := (d.dataByte_keeps (some v)).1.trans h
    rw [bytesPulses, List.flatMap_cons, strobes_append, strobes_bytePulses _ _ h]
    exact ih hdata

/-! Runs of data bytes. -/

/-- The memory after some bytes were stored at consecutive addresses. -/
def Memory.writeAll : Memory → Nat → List Byte → Memory
  | m, _, [] => m
  | m, a, v :: vs => Memory.writeAll (m.write a v) (a + 1) vs

theorem Memory.read_writeAll_outside (vs : List Byte) : ∀ (m : Memory) {a x : Nat}, x < a ∨ a + vs.length ≤ x →
    (m.writeAll a vs).read x = m.read x := by
  induction vs with
  | nil => exact fun _ _ _ _ => rfl
  | cons v vs ih =>
    intro m a x h
    rw [List.length_cons] at h
    rw [Memory.writeAll, ih _ (by omega), Memory.read_write_other m v (by omega)]

theorem Memory.read_writeAll_inside (vs : List Byte) : ∀ (m : Memory) (a : Nat) {j : Nat}, j < vs.length →
    (m.writeAll a vs).read (a + j) = vs[j]? := by
  induction vs with
  | nil => intro m a j h; cases h
  | cons v vs ih =>
    intro m a j h
    cases j with
    | zero => rw [Memory.writeAll, Memory.read_writeAll_outside _ _ (by omega)]; simp
    | succ j =>
      have hj : j < vs.length := by simpa using h
      rw [Memory.writeAll, show a + (j + 1) = a + 1 + j by omega, ih _ _ hj]
      simp

/-- The cells of one of display memory's two lines (60_exceptions.md R193). -/
def OnOneLine (n len : Nat) : Prop := n + len ≤ 0x28 ∨ (0x40 ≤ n ∧ n + len ≤ 0x68)

theorem ddramExists_ofNat {n : Nat} (h : OnOneLine n 1) : ddramExists (BitVec.ofNat 7 n) = true := by
  rw [ddramExists_iff, BitVec.toNat_ofNat]
  unfold OnOneLine at h
  omega

/-- A data byte at a known display address of a line. -/
theorem Display.data_at_ddram (v : Byte) {d : Display} {n : Nat} (hinc : d.increment = some true)
    (hcounter : d.counter = some (.ddram (some (BitVec.ofNat 7 n)))) (hline : OnOneLine n 1) :
    d.data v = { d with
      ddram := d.ddram.write n v, counter := some (.ddram (some (BitVec.ofNat 7 (n + 1)))), offset := d.slide } := by
  have hn : n < 128 := by unfold OnOneLine at hline; omega
  have hto : (BitVec.ofNat 7 n).toNat = n := by rw [BitVec.toNat_ofNat]; omega
  have hlast : BitVec.ofNat 7 n ≠ 0x7F#7 := fun h => by
    have h127 := congrArg BitVec.toNat h
    unfold OnOneLine at hline
    rw [hto] at h127
    simp at h127
    omega
  have hnext : BitVec.ofNat 7 n + 1 = BitVec.ofNat 7 (n + 1) := (BitVec.ofNat_add ..).symm
  simp only [Display.data, Display.dataByte, Display.advance, hcounter, hinc, ddramExists_ofNat hline, if_true, if_neg hlast,
    hto, Memory.store, hnext]

/-- A data byte at a known glyph address, which wraps (70_reset_and_hazards.md R214). -/
theorem Display.data_at_cgram (v : Byte) {d : Display} {n : Nat} (hinc : d.increment = some true)
    (hcounter : d.counter = some (.cgram (some (BitVec.ofNat 6 n)))) (hn : n < 64) :
    d.data v = { d with
      cgram := d.cgram.write n v, counter := some (.cgram (some (BitVec.ofNat 6 (n + 1)))), offset := d.slide } := by
  have hto : (BitVec.ofNat 6 n).toNat = n := by rw [BitVec.toNat_ofNat]; omega
  have hnext : BitVec.ofNat 6 n + 1 = BitVec.ofNat 6 (n + 1) := (BitVec.ofNat_add ..).symm
  simp only [Display.data, Display.dataByte, Display.advance, hcounter, hinc, hto, Memory.store, hnext]

/-- A second data byte leaves the display offset where the first one left it. -/
theorem Display.slide_slid (d : Display) (counter : Option Pointer) (ddram cgram : Memory) :
    ({ d with counter := counter, ddram := ddram, cgram := cgram, offset := d.slide } : Display).slide = d.slide := by
  unfold Display.slide
  split <;> rfl

/-- A run of data bytes in one line of display memory. -/
theorem Display.dataBytes_at_ddram (vs : List Byte) : ∀ {d : Display} {n : Nat}, d.increment = some true →
    d.counter = some (.ddram (some (BitVec.ofNat 7 n))) → OnOneLine n vs.length → vs ≠ [] →
    d.dataBytes vs = { d with
      ddram := d.ddram.writeAll n vs, counter := some (.ddram (some (BitVec.ofNat 7 (n + vs.length))))
      offset := d.slide } := by
  induction vs with
  | nil => exact fun _ _ _ h => absurd rfl h
  | cons v vs ih =>
    intro d n hinc hcounter hline _
    have hone : OnOneLine n 1 := by unfold OnOneLine at hline ⊢; rw [List.length_cons] at hline; omega
    have hrest : OnOneLine (n + 1) vs.length := by unfold OnOneLine at hline ⊢; rw [List.length_cons] at hline; omega
    rw [Display.dataBytes, Display.data_at_ddram v hinc hcounter hone]
    by_cases hvs : vs = []
    · subst hvs; rfl
    · refine (ih (n := n + 1) ?_ ?_ hrest hvs).trans ?_
      · exact hinc
      · rfl
      · rw [List.length_cons, Nat.add_comm vs.length 1, ← Nat.add_assoc]
        simp [Memory.writeAll, Display.slide_slid]

/-- A run of data bytes in glyph memory. -/
theorem Display.dataBytes_at_cgram (vs : List Byte) : ∀ {d : Display} {n : Nat}, d.increment = some true →
    d.counter = some (.cgram (some (BitVec.ofNat 6 n))) → n + vs.length ≤ 64 → vs ≠ [] →
    d.dataBytes vs = { d with
      cgram := d.cgram.writeAll n vs, counter := some (.cgram (some (BitVec.ofNat 6 (n + vs.length))))
      offset := d.slide } := by
  induction vs with
  | nil => exact fun _ _ _ h => absurd rfl h
  | cons v vs ih =>
    intro d n hinc hcounter hlen _
    rw [List.length_cons] at hlen
    rw [Display.dataBytes, Display.data_at_cgram v hinc hcounter (by omega)]
    by_cases hvs : vs = []
    · subst hvs; rfl
    · refine (ih (n := n + 1) ?_ ?_ (by omega) hvs).trans ?_
      · exact hinc
      · rfl
      · rw [List.length_cons, Nat.add_comm vs.length 1, ← Nat.add_assoc]
        simp [Memory.writeAll, Display.slide_slid]

/-! Lines and glyphs. -/

/-- The controller after a line of 16 characters at display address `base`. -/
def Display.withLine (base : Nat) (text : List Byte) (d : Display) : Display :=
  { d with
    ddram := d.ddram.writeAll base (line16 text)
    counter := some (.ddram (some (BitVec.ofNat 7 (base + 16))))
    offset := d.slide }

/-- The controller after a glyph was written to a slot. -/
def Display.withGlyph (slot : Nat) (bitmap : List Byte) (d : Display) : Display :=
  { d with
    cgram := d.cgram.writeAll (8 * slot) bitmap
    counter := some (.cgram (some (BitVec.ofNat 6 (8 * slot + 8))))
    offset := d.slide }

/-- A line address sets the address counter to the line's first cell, which 15 more follow (60_exceptions.md R193). -/
theorem command_of_lineAddress {address : Byte} (h : address ∈ lineAddresses) (d : Display) :
    d.command address = { d with counter := some (.ddram (some (BitVec.ofNat 7 (address.toNat - 0x80)))) } ∧
      OnOneLine (address.toNat - 0x80) 16 := by
  have hall : ∀ a ∈ lineAddresses, a.getLsbD 7 = true ∧ a.extractLsb' 0 7 = BitVec.ofNat 7 (a.toNat - 0x80) ∧
      (a.toNat - 0x80 + 16 ≤ 0x28 ∨ (0x40 ≤ a.toNat - 0x80 ∧ a.toNat - 0x80 + 16 ≤ 0x68)) := by decide
  obtain ⟨hbit, haddress, hline⟩ := hall address h
  exact ⟨by rw [Display.command, if_pos hbit, haddress], hline⟩

theorem strobes_linePulses {address : Byte} (h : address ∈ lineAddresses) (text : List Byte) {d : Display}
    (hfour : d.iface = .four) (hinc : d.increment = some true) :
    strobes (linePulses address text) d = d.withLine (address.toNat - 0x80) text := by
  obtain ⟨hcommand, hline⟩ := command_of_lineAddress h d
  have hne : line16 text ≠ [] := fun hnil => by simpa [hnil] using length_line16 text
  rw [linePulses, strobes_append, strobes_bytePulses _ _ hfour, Display.byte, hcommand,
    strobes_bytesPulses_character _ (by exact hfour)]
  refine (Display.dataBytes_at_ddram (line16 text) ?_ ?_ (by rwa [length_line16]) hne).trans ?_
  · exact hinc
  · rfl
  · rw [length_line16]; rfl

theorem command_glyphCommand (slot : BitVec 3) (d : Display) :
    d.command (glyphCommand slot) = { d with counter := some (.cgram (some (BitVec.ofNat 6 (8 * slot.toNat)))) } := by
  have hall : ∀ slot : BitVec 3, (glyphCommand slot).getLsbD 7 = false ∧ (glyphCommand slot).getLsbD 6 = true ∧
      (glyphCommand slot).extractLsb' 0 6 = BitVec.ofNat 6 (8 * slot.toNat) := by decide
  obtain ⟨h7, h6, haddress⟩ := hall slot
  rw [Display.command, if_neg (by simp only [h7]; decide), if_pos h6, haddress]

theorem strobes_glyphPulses (slot : BitVec 3) {bitmap : List Byte} (hbitmap : bitmap.length = 8) {d : Display}
    (hfour : d.iface = .four) (hinc : d.increment = some true) :
    strobes (bytePulses .command (glyphCommand slot) ++ bytesPulses .character bitmap) d =
      d.withGlyph slot.toNat bitmap := by
  have hslot := slot.isLt
  have hne : bitmap ≠ [] := fun hnil => by simp [hnil] at hbitmap
  rw [strobes_append, strobes_bytePulses _ _ hfour, Display.byte, command_glyphCommand,
    strobes_bytesPulses_character _ (by exact hfour)]
  refine (Display.dataBytes_at_cgram bitmap (n := 8 * slot.toNat) ?_ ?_ (by omega) hne).trans ?_
  · exact hinc
  · rfl
  · rw [hbitmap]; rfl

end Sys2Proof.Machine

/-! What each driver operation makes of the display, by the receiver reference: memories, modes and pairing of the controller
(60_exceptions.md R190 to R196, 70_reset_and_hazards.md section 3; Log 12, 30, 32), and what a panel then shows
(Machine/Picture.lean; Log 28, 31). -/

namespace Sys2Proof.Machine

/-! The interface width. -/

/-- Between two bytes a command changes the interface only with upper half 3, as a function set (60_exceptions.md R193). -/
theorem command_iface_of_four (b : Byte) {d : Display} (h : d.iface = .four) :
    (d.command b).iface = if highNibble b = 3 then .eight else .four := by
  have hbits : ∀ b : Byte, highNibble b = 3 ↔
      b.getLsbD 7 = false ∧ b.getLsbD 6 = false ∧ b.getLsbD 5 = true ∧ b.getLsbD 4 = true := by decide
  simp only [hbits, Display.command]
  split_ifs <;> simp_all [Display.unknown]

theorem highNibble_append (hi lo : Nibble) : highNibble (hi ++ lo) = hi := by
  revert hi lo; decide

/-- A completed byte leaves the interface between two bytes, but for a function set with upper half 3. -/
theorem lowerHalf_iface {hi : Nibble} (rsHi : Bool) (n : Nibble) (rs : Bool) (d : Display) (h : hi ≠ 3) :
    (d.lowerHalf hi rsHi n rs).iface = .four := by
  have hcommand : (Display.command (hi ++ n) { d with iface := .four }).iface = .four := by
    rw [command_iface_of_four _ rfl, if_neg (by rwa [highNibble_append])]
  have hdata : (Display.data (hi ++ n) { d with iface := .four }).iface = .four := (Display.dataByte_keeps ..).1
  unfold Display.lowerHalf
  split_ifs
  · exact hdata
  · exact hcommand
  · exact (if_pos (hcommand.trans hdata.symm)).trans hcommand

/-! A strobe, by how the interface stands. -/

section Strobe

variable (n : Nibble) (rs : Bool) {d : Display}

theorem Display.strobe_unsynced {k : Nat} (h : d.iface = .unsynced k) : d.strobe n rs = strobeUnsynced k n rs := by
  simp only [Display.strobe, h]

theorem Display.strobe_four (h : d.iface = .four) : d.strobe n rs = { d with iface := .fourHalf n rs } := by
  simp only [Display.strobe, h]

theorem Display.strobe_fourHalf {hi : Nibble} {rsHi : Bool} (h : d.iface = .fourHalf hi rsHi) :
    d.strobe n rs = d.lowerHalf hi rsHi n rs := by
  simp only [Display.strobe, h]

end Strobe

/-! INIT. -/

/-- The interface after a strobe of nibble 3 with RS = 0 (60_exceptions.md R192, R193). -/
def Iface.afterThree : Iface → Iface
  | .unsynced k => if k + 1 < 3 then .unsynced (k + 1) else .eight
  | .eight => .eight
  | .four => .fourHalf 3 false
  | .fourHalf hi rs => if hi = 3 then (if rs then .unsynced 1 else .eight) else .four

theorem strobe_three_iface (d : Display) : (d.strobe 3 false).iface = d.iface.afterThree := by
  cases h : d.iface with
  | unsynced k =>
    rw [Display.strobe_unsynced 3 false h, strobeUnsynced, if_pos ⟨rfl, rfl⟩, Iface.afterThree]
    split <;> rfl
  | eight => rw [Display.strobe_eight 3 false h, if_neg (by decide)]; rfl
  | four => rw [Display.strobe_four 3 false h]; rfl
  | fourHalf hi rs =>
    rw [Display.strobe_fourHalf 3 false h, Iface.afterThree]
    by_cases hhi : hi = 3
    · subst hhi
      have hcommand := command_iface_of_four (3#4 ++ 3#4) (d := { d with iface := .four }) rfl
      have hdata : (Display.data (3#4 ++ 3#4) { d with iface := .four }).iface = .four := (Display.dataByte_keeps ..).1
      cases rs with
      | false => exact hcommand
      | true =>
        have hne : (Display.command (3#4 ++ 3#4) { d with iface := .four }).iface ≠
            (Display.data (3#4 ++ 3#4) { d with iface := .four }).iface := by rw [hcommand, hdata]; decide
        exact (if_neg hne).trans rfl
    · rw [lowerHalf_iface rs 3 false d hhi, if_neg hhi]

/-- Three strobes of nibble 3 force the 8-bit interface from any state. -/
theorem afterThree_three_times (i : Iface) : i.afterThree.afterThree.afterThree = .eight := by
  cases i with
  | unsynced k =>
    match k with
    | 0 => rfl
    | 1 => rfl
    | k + 2 =>
      have hk : Iface.afterThree (.unsynced (k + 2)) = .eight := by
        rw [Iface.afterThree, if_neg (by omega)]
      rw [hk]; rfl
  | eight => rfl
  | four => rfl
  | fourHalf hi rs =>
    by_cases hhi : hi = 3
    · subst hhi; cases rs <;> rfl
    · have hfour : Iface.afterThree (.fourHalf hi rs) = .four := if_neg hhi
      rw [hfour]; rfl

/-- The first two bytes of INIT, nibble by nibble. -/
def syncPulses : List (Nibble × Mode) := [(3, .command), (3, .command), (3, .command), (2, .command)]

/-- The other four bytes of INIT. -/
def setupPulses : List (Nibble × Mode) := bytesPulses .command [0x06, 0x0C, 0x28, 0x01]

theorem initPulses_eq : bytesPulses .command initSeq = syncPulses ++ setupPulses := rfl

theorem strobes_syncPulses_iface (d : Display) : (strobes syncPulses d).iface = .four := by
  let d3 := ((d.strobe 3 false).strobe 3 false).strobe 3 false
  have h3 : d3.iface = .eight := by
    rw [strobe_three_iface, strobe_three_iface, strobe_three_iface, afterThree_three_times]
  exact congrArg Display.iface (d3.strobe_eight 2 false h3)

/-- From between two bytes they leave glyph memory alone. -/
theorem strobes_syncPulses_cgram {d : Display} (h : d.iface = .four) : (strobes syncPulses d).cgram = d.cgram := by
  let d2 := d.command 0x33
  have hd2 : (d.strobe 3 false).strobe 3 false = d2 := strobe_strobe 0x33 .command d h
  have h2 : d2.iface = .eight := command_iface_of_four 0x33 h
  have h3 : (d2.strobe 3 false).iface = .eight := by rw [strobe_three_iface, h2]; rfl
  have hall : strobes syncPulses d = ((((d.strobe 3 false).strobe 3 false).strobe 3 false).strobe 2 false) := rfl
  rw [hall, hd2, Display.strobe_eight 2 false h3, Display.strobe_eight 3 false h2]
  simp [d2]

/-- The controller after INIT: everything but glyph memory is known. -/
def Display.initialised (cgram : Memory) : Display :=
  { iface := .four, counter := some (.ddram (some 0)), ddram := ddramCleared, cgram := cgram
    increment := some true, shiftMode := some false, offset := some 0
    displayOn := some true, cursorOn := some false, blinkOn := some false
    twoLines := some true, fiveByTen := some false }

theorem strobes_setupPulses {d : Display} (h : d.iface = .four) : strobes setupPulses d = Display.initialised d.cgram := by
  obtain ⟨i, c, dd, cg, e1, e2, e3, e4, e5, e6, e7, e8⟩ := d
  subst h
  rfl

theorem exists_startFollowing (d : Option Display) : ∃ d0, startFollowing d = some d0 ∧ ∀ d1, d = some d1 → d0 = d1 := by
  cases d with
  | none => exact ⟨_, rfl, fun _ h => nomatch h⟩
  | some d => exact ⟨d, rfl, fun _ h => Option.some_inj.mp h⟩

/-- INIT, all of whose writes succeed, from any state. -/
theorem exec_init_succeeds {s : State} {n : Nat} (hidle : s.inProgress = false) (hsucceed : s.nextSucceed n) (hn : 48 ≤ n) :
    ∃ t cgram, exec .init s = .next t ∧ t.display = some (Display.initialised cgram) ∧ t.enableIsLow ∧
      LeavesAnswers s t (n - 48) ∧ ∀ d0, s.displayReady d0 → cgram = d0.cgram := by
  obtain ⟨t, ht, -, -, htarget⟩ := issued_of_succeeds hidle (exec_init s) hn hsucceed
  obtain ⟨d0, hd0, hsame⟩ := exists_startFollowing s.display
  let low := busbyte s.cfg.backlight 3 .command false
  let d1 := d0.onWrite s.lines low
  obtain ⟨b, hb, hdeliver⟩ := deliverAll_sentPulses s.cfg ((syncPulses ++ setupPulses).drop 1) (d1.strobe 3 false)
    (busbyte_enable s.cfg.backlight 3 .command false)
  have hdrive : (t.lines, t.display) = (some b, some (Display.initialised (strobes syncPulses d1).cgram)) := by
    rw [htarget, delivered_events, Drive.enter_display]
    refine (congrArg (fun p => deliverAll _ (s.lines, p)) hd0).trans ?_
    have hfirst : sentPulses s.cfg (Drive.init.pulsesOf s.cfg) =
        sentNibble s.cfg (3 : Nibble).toNat .command ++ sentPulses s.cfg ((syncPulses ++ setupPulses).drop 1) := rfl
    rw [hfirst, delivered_append, deliverAll_append, deliverAll_sentNibble]
    refine hdeliver.trans ?_
    rw [← strobes_setupPulses (strobes_syncPulses_iface d1), ← strobes_append]
    rfl
  refine ⟨t, _, ht, congrArg Prod.snd hdrive, ⟨b, congrArg Prod.fst hdrive, hb⟩,
    leavesAnswers_of_drive hidle hsucceed (exec_init s) hn ht, ?_⟩
  rintro d ⟨hd, hfour, old, hlines, hold⟩
  obtain rfl := hsame d hd
  have hd1 : d1 = d0 := by
    rw [show d1 = d0.onWrite s.lines low from rfl, hlines]
    exact d0.onWrite_of_no_edge (.inr hold)
  rw [hd1, strobes_syncPulses_cgram hfour]

/-! Reading display memory. -/

theorem Memory.read_append (m1 m2 : Memory) (a : Nat) : Memory.read (m1 ++ m2) a = (m1.read a).or (m2.read a) := by
  induction m1 with
  | nil => rfl
  | cons kv m ih =>
    obtain ⟨k, v⟩ := kv
    by_cases h : k = a <;> simp [Memory.read, h, ih]

theorem Memory.read_filled (n : Nat) (b : Byte) (a : Nat) : ∀ base,
    (Memory.filled base n b).read a = if base ≤ a ∧ a < base + n then some b else none := by
  induction n with
  | zero => intro base; rw [if_neg (by omega)]; rfl
  | succ n ih =>
    intro base
    have hcons : Memory.filled base (n + 1) b = (base, b) :: Memory.filled (base + 1) n b := by
      simp [Memory.filled, List.range'_succ]
    rw [hcons, Memory.read, ih]
    by_cases h : base = a
    · rw [if_pos h, if_pos (by omega)]
    · rw [if_neg h]
      exact if_congr (by omega) rfl rfl

theorem read_ddramCleared (a : Nat) :
    ddramCleared.read a = if a < 0x28 ∨ (0x40 ≤ a ∧ a < 0x68) then some 0x20 else none := by
  rw [ddramCleared, Memory.read_append, Memory.read_filled, Memory.read_filled]
  by_cases h : a < 0x28
  · rw [if_pos (show 0 ≤ a ∧ a < 0 + 40 by omega), if_neg (show ¬ (64 ≤ a ∧ a < 64 + 40) by omega), if_pos (Or.inl h)]
    rfl
  · rw [if_neg (show ¬ (0 ≤ a ∧ a < 0 + 40) by omega), Option.none_or]
    exact if_congr (by omega) rfl rfl

/-- Settles O46. -/
theorem initMakesTheDisplayKnown : Obligations.InitMakesTheDisplayKnown := by
  intro s hidle hsucceed
  obtain ⟨t, cgram, ht, hd, hlow, -, hcgram⟩ := exec_init_succeeds hidle hsucceed (Nat.le_refl 48)
  exact ⟨t, _, ht, ⟨hd, rfl, hlow⟩, rfl, read_ddramCleared, rfl, rfl, rfl, rfl, rfl, rfl, rfl, rfl, hcgram⟩

end Sys2Proof.Machine

/-! What the driver's line and glyph operations leave in the controller's memories, and what a panel then shows, by the receiver
reference (60_exceptions.md R193 to R195; Log 12, 28, 30, 31, 32). -/

namespace Sys2Proof.Machine

/-! Reading a line and a glyph. -/

theorem Display.withLine_read_inside (base : Nat) (text : List Byte) (d : Display) {j : Nat} (hj : j < 16) :
    (d.withLine base text).ddram.read (base + j) = (displayLine text)[j]? := by
  rw [displayLine_eq_line16]
  exact Memory.read_writeAll_inside _ _ _ (hj.trans_eq (length_line16 text).symm)

theorem Display.withLine_read_outside {base : Nat} (text : List Byte) (d : Display) {a : Nat} (h : a < base ∨ base + 16 ≤ a) :
    (d.withLine base text).ddram.read a = d.ddram.read a :=
  Memory.read_writeAll_outside _ _ (by rwa [length_line16])

theorem Display.withGlyph_read_inside {bitmap : List Byte} (hbitmap : bitmap.length = 8) (slot : Nat) (d : Display) {j : Nat}
    (hj : j < 8) : (d.withGlyph slot bitmap).cgram.read (8 * slot + j) = bitmap[j]? :=
  Memory.read_writeAll_inside _ _ _ (hj.trans_eq hbitmap.symm)

theorem Display.withGlyph_read_outside {bitmap : List Byte} (hbitmap : bitmap.length = 8) {slot : Nat} (d : Display) {a : Nat}
    (h : a < 8 * slot ∨ 8 * slot + 8 ≤ a) : (d.withGlyph slot bitmap).cgram.read a = d.cgram.read a :=
  Memory.read_writeAll_outside _ _ (by rwa [hbitmap])

/-! The operations at a ready controller. -/

/-- The controller after the two lines of a formatter operation (43_display_formatter.md; 60_exceptions.md R193). -/
def Display.withTwoLines (text1 text2 : List Byte) (d : Display) : Display :=
  (d.withLine 0 text1).withLine 0x40 text2

section Ready

variable {s : State} {d : Display} {n : Nat} (hidle : s.inProgress = false) (hsucceed : s.nextSucceed n)
  (hready : s.displayReady d) (hinc : d.increment = some true)
include hidle hsucceed hready hinc

theorem exec_defineGlyph_ready {slot : Byte} {bitmap : List Byte} (hslot : slot.toNat < 8) (hbitmap : bitmap.length = 8)
    (hn : 72 ≤ n) : ∃ t, exec (.defineGlyph slot bitmap) s = .next t ∧ t.displayReady (d.withGlyph slot.toNat bitmap) ∧
      LeavesAnswers s t (n - 72) := by
  obtain ⟨hd, hfour, hlow⟩ := hready
  have hexec : exec (.defineGlyph slot bitmap) s = accept none (Job.drive (.sending
      (bytePulses .command (glyphCommand (slot.setWidth 3)) ++ bytesPulses .character bitmap))).run s :=
    (exec_defineGlyph s slot bitmap).trans (by rw [glyphPrecondition_eq_none hslot hbitmap])
  have hlength : (bytePulses .command (glyphCommand (slot.setWidth 3)) ++ bytesPulses .character bitmap).length = 18 := by
    simp [length_bytesPulses, bytePulses, hbitmap]
  obtain ⟨t, ht, hdisplay, hlow', hleaves⟩ := exec_sending hidle hsucceed hd hlow hexec (by omega)
  have hslot3 : (slot.setWidth 3).toNat = slot.toNat := by rw [BitVec.toNat_setWidth]; omega
  rw [strobes_glyphPulses _ hbitmap hfour hinc, hslot3] at hdisplay
  rw [hlength] at hleaves
  exact ⟨t, ht, ⟨hdisplay, hfour, hlow'⟩, hleaves⟩

theorem exec_writeString_ready (text : List Byte) {line : LineSel} {address : Byte} (hline : lineCommand line = some address)
    (haddress : address ∈ lineAddresses) (hn : 136 ≤ n) : ∃ t, exec (.writeString text line) s = .next t ∧
      t.displayReady (d.withLine (address.toNat - 0x80) text) := by
  obtain ⟨hd, hfour, hlow⟩ := hready
  obtain ⟨t, ht, hdisplay, hlow', -⟩ := exec_sending hidle hsucceed hd hlow (exec_writeString s text hline)
    (by rw [length_linePulses]; omega)
  rw [strobes_linePulses haddress text hfour hinc] at hdisplay
  exact ⟨t, ht, hdisplay, hfour, hlow'⟩

/-- An instruction that sends two lines. -/
theorem exec_twoLines_ready {i : Instr} {text1 text2 : List Byte}
    (hexec : exec i s = accept none (Job.drive (.sending (linePulses 0x80 text1 ++ linePulses 0xC0 text2))).run s)
    (hn : 272 ≤ n) : ∃ t, exec i s = .next t ∧ t.displayReady (d.withTwoLines text1 text2) := by
  obtain ⟨hd, hfour, hlow⟩ := hready
  obtain ⟨t, ht, hdisplay, hlow', -⟩ := exec_sending hidle hsucceed hd hlow hexec (by simp [length_linePulses]; omega)
  rw [strobes_append, strobes_linePulses (by decide) text1 hfour hinc, strobes_linePulses (by decide) text2] at hdisplay
  · exact ⟨t, ht, hdisplay, hfour, hlow'⟩
  · exact hfour
  · exact hinc

end Ready

theorem exec_showNotFound_sending (s : State) : exec .showNotFound s =
    accept none (Job.drive (.sending (linePulses 0x80 s.cfg.nfLine1 ++ linePulses 0xC0 s.cfg.nfLine2))).run s :=
  exec_showNotFound s

/-- Settles O47. -/
theorem writeStringPutsTheLineInDisplayMemory : Obligations.WriteStringPutsTheLineInDisplayMemory := by
  intro text n address line s d hidle hsucceed hready hinc haddress hline
  obtain ⟨t, ht, hready'⟩ := exec_writeString_ready hidle hsucceed hready hinc text (lineCommand_of_line haddress hline)
    (List.mem_of_getElem? haddress) (Nat.le_refl _)
  exact ⟨t, _, ht, hready', hinc, fun j hj => d.withLine_read_inside _ text hj, fun a ha => d.withLine_read_outside text ha,
    rfl, rfl, rfl, rfl⟩

/-- Settles O48. -/
theorem defineGlyphFillsTheSlot : Obligations.DefineGlyphFillsTheSlot := by
  intro slot bitmap s d hidle hsucceed hready hinc hslot hbitmap
  obtain ⟨t, ht, hready', -⟩ := exec_defineGlyph_ready hidle hsucceed hready hinc hslot hbitmap (Nat.le_refl _)
  exact ⟨t, _, ht, hready', hinc, fun j hj => d.withGlyph_read_inside hbitmap _ hj,
    fun a ha => d.withGlyph_read_outside hbitmap ha, rfl, rfl, rfl, rfl, rfl⟩

/-! The picture. -/

section TwoLines

variable (text1 text2 : List Byte) (d : Display)

theorem withTwoLines_read_first {j : Nat} (hj : j < 16) :
    (d.withTwoLines text1 text2).ddram.read j = (displayLine text1)[j]? := by
  rw [Display.withTwoLines, Display.withLine_read_outside _ _ (by omega), ← d.withLine_read_inside 0 text1 hj, Nat.zero_add]

theorem withTwoLines_read_second {j : Nat} (hj : j < 16) :
    (d.withTwoLines text1 text2).ddram.read (0x40 + j) = (displayLine text2)[j]? :=
  Display.withLine_read_inside _ _ _ hj

theorem withTwoLines_read_other {a : Nat} (h : (16 ≤ a ∧ a < 0x40) ∨ 0x50 ≤ a) :
    (d.withTwoLines text1 text2).ddram.read a = d.ddram.read a := by
  rw [Display.withTwoLines, Display.withLine_read_outside _ _ (by omega), Display.withLine_read_outside _ _ (by omega)]

end TwoLines

/-- A panel row whose cells hold a line of text shows it. -/
theorem map_cellShows_eq {base : Nat} {text : List Byte} {d : Display}
    (h : ∀ j, j < 16 → d.ddram.read (base + j) = (displayLine text)[j]?) :
    (List.range' base 16).map d.cellShows = (displayLine text).map (fun c => some (d.shows c)) := by
  have hlength : (displayLine text).length = 16 := by rw [displayLine_eq_line16, length_line16]
  refine List.ext_getElem (by simp [hlength]) (fun j hj hj' => ?_)
  have hj16 : j < 16 := by simpa using hj
  rw [List.getElem_map, List.getElem_map, List.getElem_range', Nat.one_mul, Display.cellShows, h j hj16,
    List.getElem?_eq_getElem (hj16.trans_eq hlength.symm)]
  rfl

/-- An unshifted panel that is on, with two lines of 5×8 characters, shows the cells of its rows (60_exceptions.md R193). -/
theorem picture_twoBySixteen {text1 text2 : List Byte} {d : Display} (hon : d.displayOn = some true)
    (hoffset : d.offset = some 0) (htwo : d.twoLines = some true) (hfont : d.fiveByTen = some false)
    (h1 : ∀ j, j < 16 → d.ddram.read j = (displayLine text1)[j]?)
    (h2 : ∀ j, j < 16 → d.ddram.read (0x40 + j) = (displayLine text2)[j]?) :
    d.picture .twoBySixteen = .on [(displayLine text1).map (fun c => some (d.shows c)),
      (displayLine text2).map (fun c => some (d.shows c))] := by
  rw [← map_cellShows_eq (base := 0) (fun j hj => by rw [Nat.zero_add, h1 j hj]), ← map_cellShows_eq h2]
  simp only [Display.picture, hon, hoffset, htwo, hfont]
  rfl

theorem picture_notKnown {d : Display} (p : Panel) (hon : d.displayOn = some true)
    (h : d.offset ≠ some 0 ∨ d.twoLines ≠ some true ∨ d.fiveByTen ≠ some false) : d.picture p = .notKnown := by
  unfold Display.picture
  split
  case h_1 hoff _ => cases hon.symm.trans (by assumption)
  case h_2 => simp_all
  case h_3 => rfl

theorem picture_off {d : Display} (p : Panel) (hoff : d.displayOn = some false) : d.picture p = .off := by
  simp only [Display.picture, hoff]

/-- What O50 says of one formatter operation. -/
theorem exec_twoLines_shows {i : Instr} {s : State} {d : Display} {text1 text2 : List Byte} (hidle : s.inProgress = false)
    (hsucceed : s.nextSucceed 272) (hready : s.displayReady d) (hinc : d.increment = some true)
    (hexec : exec i s = accept none (Job.drive (.sending (linePulses 0x80 text1 ++ linePulses 0xC0 text2))).run s) :
    ∃ t d', exec i s = .next t ∧ t.displayReady d' ∧
      (∀ j, j < 16 → d'.ddram.read j = (displayLine text1)[j]?) ∧
      (∀ j, j < 16 → d'.ddram.read (0x40 + j) = (displayLine text2)[j]?) ∧
      (∀ a, (16 ≤ a ∧ a < 0x40) ∨ 0x50 ≤ a → d'.ddram.read a = d.ddram.read a) ∧ d'.cgram = d.cgram ∧
      (d.displayOn = some true → d.shiftMode = some false → d.offset = some 0 → d.twoLines = some true →
        d.fiveByTen = some false →
        d'.picture .twoBySixteen = .on [(displayLine text1).map (fun c => some (d'.shows c)),
          (displayLine text2).map (fun c => some (d'.shows c))]) ∧
      (d.displayOn = some true → (d.shiftMode ≠ some false ∨ d.offset ≠ some 0 ∨ d.twoLines ≠ some true ∨
        d.fiveByTen ≠ some false) → d'.picture .twoBySixteen = .notKnown) ∧
      (d.displayOn = some false → d'.picture .twoBySixteen = .off) := by
  obtain ⟨t, ht, hready'⟩ := exec_twoLines_ready hidle hsucceed hready hinc hexec (Nat.le_refl _)
  have hoffset : (d.withTwoLines text1 text2).offset = d.slide := Display.slide_slid d _ _ _
  refine ⟨t, _, ht, hready', fun j hj => withTwoLines_read_first _ _ d hj, fun j hj => withTwoLines_read_second _ _ d hj,
    fun a ha => withTwoLines_read_other _ _ d ha, rfl, fun hon hshift hzero htwo hfont => ?_, fun hon h => ?_,
    fun hoff => picture_off _ hoff⟩
  · refine picture_twoBySixteen hon ?_ htwo hfont (fun j hj => withTwoLines_read_first _ _ d hj)
      (fun j hj => withTwoLines_read_second _ _ d hj)
    rw [hoffset, Display.slide, if_pos hshift, hzero]
  · refine picture_notKnown _ hon ?_
    rw [hoffset, Display.slide]
    rcases h with hshift | hzero | hrest
    · rw [if_neg hshift]; exact .inl (by decide)
    · refine .inl ?_
      split
      · exact hzero
      · decide
    · exact .inr hrest

/-- Settles O50. -/
theorem showOperationsPutTheirTwoLines : Obligations.ShowOperationsPutTheirTwoLines := by
  intro title price s d hidle hsucceed hready hinc
  have hshow {i text1 text2} := exec_twoLines_shows (i := i) (text1 := text1) (text2 := text2) hidle hsucceed hready hinc
  simp only [List.forall_mem_cons]
  exact ⟨hshow (exec_showProduct s title price), hshow (exec_showNotFound_sending s), fun _ h => nomatch h⟩

/-- Settles O49. -/
theorem retrySequenceRestoresThePicture : Obligations.RetrySequenceRestoresThePicture := by
  intro s title price bitmap hidle hsucceed hbitmap
  obtain ⟨t1, cgram, ht1, hd1, hlow1, ⟨hidle1, -, hsucceed1⟩, -⟩ := exec_init_succeeds hidle hsucceed (by decide)
  obtain ⟨t2, ht2, hready2, hidle2, -, hsucceed2⟩ :=
    exec_defineGlyph_ready (slot := 0x00) hidle1 hsucceed1 ⟨hd1, rfl, hlow1⟩ rfl (by decide) hbitmap (by decide)
  obtain ⟨t3, ht3, hready3⟩ := exec_twoLines_ready hidle2 hsucceed2 hready2 rfl
    (exec_showProduct t2 title price) (by decide)
  refine ⟨t1, t2, t3, _, ht1, ht2, ht3, hready3, fun j hj => withTwoLines_read_first _ _ _ hj,
    fun j hj => withTwoLines_read_second _ _ _ hj, fun j hj => ?_,
    picture_twoBySixteen rfl rfl rfl rfl (fun j hj => withTwoLines_read_first _ _ _ hj)
      (fun j hj => withTwoLines_read_second _ _ _ hj)⟩
  rw [← Display.withGlyph_read_inside hbitmap 0 (Display.initialised cgram) hj]
  exact congrArg _ (Nat.zero_add j).symm

/-! Glyph cells. -/

theorem toList_rowDots (b : Byte) : (rowDots b).toList = dotsOf b := by
  revert b; decide

theorem glyphSlot_of_lt {c : Byte} (h : c.toNat < 16) :
    ∃ slot : BitVec 3, glyphSlot c = some slot ∧ slot.toNat = c.toNat % 8 :=
  ⟨_, if_pos h, by simp [BitVec.toNat_setWidth]⟩

/-- A code below 16 shows the eight rows of its slot. -/
theorem exists_rows_of_glyphSlot (d : Display) {c : Byte} {slot : BitVec 3} (h : glyphSlot c = some slot) :
    ∃ rows, d.shows c = .glyph rows ∧
      rows.toList = (List.range 8).map (fun r => (d.cgram.read (8 * slot.toNat + r)).map rowDots) :=
  ⟨_, by rw [Display.shows, h], rfl⟩

/-- What a code below 16 shows depends on the cells of its slot only. -/
theorem shows_congr {d d' : Display} {c : Byte} {slot : BitVec 3} (h : glyphSlot c = some slot)
    (hcells : ∀ r < 8, d'.cgram.read (8 * slot.toNat + r) = d.cgram.read (8 * slot.toNat + r)) : d'.shows c = d.shows c := by
  have hrow (r : BitVec 3) : d'.glyphRow slot r = d.glyphRow slot r := congrArg (Option.map rowDots) (hcells _ r.isLt)
  simp only [Display.shows, h, hrow]

/-- Settles O58. -/
theorem glyphCellsShowTheBitmap : Obligations.GlyphCellsShowTheBitmap := by
  intro slot bitmap s d hidle hsucceed hready hinc hslot hbitmap
  obtain ⟨t, ht, ⟨hd', -, -⟩, -⟩ := exec_defineGlyph_ready hidle hsucceed hready hinc hslot hbitmap (Nat.le_refl _)
  refine ⟨t, _, ht, hd', fun a c hcell => ?_⟩
  have hshows : (d.withGlyph slot.toNat bitmap).cellShows a = some ((d.withGlyph slot.toNat bitmap).shows c) :=
    congrArg (Option.map _) hcell
  refine ⟨fun hc hsame => ?_, fun hc hother => ?_, fun hlow hhigh => ?_⟩
  · obtain ⟨slot3, hslot3, hto⟩ := glyphSlot_of_lt hc
    obtain ⟨rows, hrows, hlist⟩ := exists_rows_of_glyphSlot (d.withGlyph slot.toNat bitmap) hslot3
    refine ⟨rows, by rw [hshows, hrows], ?_⟩
    rw [hlist, hto, hsame]
    refine List.ext_getElem (by simp [hbitmap]) (fun r hr hr' => ?_)
    have hr8 : r < 8 := by simpa using hr
    rw [List.getElem_map, List.getElem_map, List.getElem_map, List.getElem_range,
      Display.withGlyph_read_inside hbitmap slot.toNat d hr8, List.getElem?_eq_getElem (hr8.trans_eq hbitmap.symm)]
    exact congrArg some (toList_rowDots _)
  · obtain ⟨slot3, hslot3, hto⟩ := glyphSlot_of_lt hc
    have hcells : ∀ r < 8, (d.withGlyph slot.toNat bitmap).cgram.read (8 * slot3.toNat + r) =
        d.cgram.read (8 * slot3.toNat + r) := fun r hr => d.withGlyph_read_outside hbitmap (by omega)
    rw [hshows, shows_congr hslot3 hcells, Display.cellShows, hcell]
    rfl
  · have hnone : glyphSlot c = none := if_neg (by omega)
    rw [hshows, Display.shows, hnone, if_pos ⟨hlow, hhigh⟩]

end Sys2Proof.Machine

/-! Single nibbles and bytes at a known controller: data bytes, commands, the pairing of nibbles and the 8-bit interface
(60_exceptions.md R190 to R194, 70_reset_and_hazards.md section 3; Log 12, 30, 32). -/

namespace Sys2Proof.Machine

/-! A data byte, by what the address counter says. -/

section DataByte

variable (b : Option Byte) {d : Display}

theorem Display.dataByte_at_ddram {a : BitVec 7} (h : d.counter = some (.ddram (some a))) : d.dataByte b = { d with
    offset := d.slide, ddram := if ddramExists a then d.ddram.store a.toNat b else [], counter := d.advance } := by
  simp only [Display.dataByte, h]

theorem Display.dataByte_at_cgram {a : BitVec 6} (h : d.counter = some (.cgram (some a))) : d.dataByte b =
    { d with offset := d.slide, cgram := d.cgram.store a.toNat b, counter := d.advance } := by
  simp only [Display.dataByte, h]

theorem Display.dataByte_in_ddram (h : d.counter = some (.ddram none)) :
    d.dataByte b = { d with offset := d.slide, ddram := [] } := by
  simp only [Display.dataByte, h]

theorem Display.dataByte_in_cgram (h : d.counter = some (.cgram none)) :
    d.dataByte b = { d with offset := d.slide, cgram := [] } := by
  simp only [Display.dataByte, h]

theorem Display.dataByte_anywhere (h : d.counter = none) :
    d.dataByte b = { d with offset := d.slide, ddram := [], cgram := [] } := by
  simp only [Display.dataByte, h]

variable (d)

/-- A data byte changes nothing but the memories, the address counter and the display offset. -/
theorem Display.dataByte_changes : d.dataByte b = { d with
    ddram := (d.dataByte b).ddram, cgram := (d.dataByte b).cgram
    counter := (d.dataByte b).counter, offset := (d.dataByte b).offset } := by
  unfold Display.dataByte
  split <;> rfl

/-- At a display address that exists it changes that cell only. -/
theorem Display.dataByte_cells_ddram {a : BitVec 7} (h : d.counter = some (.ddram (some a))) (hexists : ddramExists a = true) :
    (d.dataByte b).ddram.read a.toNat = b ∧
      ∀ x, x ≠ a.toNat → (d.dataByte b).ddram.read x = d.ddram.read x := by
  rw [Display.dataByte_at_ddram b h, if_pos hexists]
  exact ⟨Memory.read_store_same .., fun x hx => Memory.read_store_other _ b hx⟩

theorem Display.dataByte_cells_cgram {a : BitVec 6} (h : d.counter = some (.cgram (some a))) :
    (d.dataByte b).cgram.read a.toNat = b ∧
      ∀ x, x ≠ a.toNat → (d.dataByte b).cgram.read x = d.cgram.read x := by
  rw [Display.dataByte_at_cgram b h]
  exact ⟨Memory.read_store_same .., fun x hx => Memory.read_store_other _ b hx⟩

end DataByte

/-! The address counter after a data byte. -/

section Advance

variable {d : Display}

theorem Display.advance_ddram {a : BitVec 7} (h : d.counter = some (.ddram (some a))) (hinc : d.increment = some true) :
    d.advance = some (.ddram (if a.toNat = 127 then none else some (BitVec.ofNat 7 (a.toNat + 1)))) := by
  have hlast : a = 0x7F#7 ↔ a.toNat = 127 := BitVec.toNat_inj.symm
  have hnext : a + 1 = BitVec.ofNat 7 (a.toNat + 1) := by rw [BitVec.ofNat_add, BitVec.ofNat_toNat]; simp
  simp only [Display.advance, h, hinc, hlast, hnext]

theorem Display.advance_cgram {a : BitVec 6} (h : d.counter = some (.cgram (some a))) (hinc : d.increment = some true) :
    d.advance = some (.cgram (some (BitVec.ofNat 6 (a.toNat + 1)))) := by
  have hnext : a + 1 = BitVec.ofNat 6 (a.toNat + 1) := by rw [BitVec.ofNat_add, BitVec.ofNat_toNat]; simp
  simp only [Display.advance, h, hinc, hnext]

/-- Without increment the memory stays chosen and the address is lost. -/
theorem Display.advance_of_not_increment (hinc : d.increment ≠ some true) : d.advance = d.counter.map Pointer.forget := by
  unfold Display.advance
  split
  · exact absurd ‹_› hinc
  · exact absurd ‹_› hinc
  · rfl

end Advance

/-! Single bytes at a ready controller. -/

/-- A row of a controller byte, or the WRITE_BYTE of that byte. -/
theorem exec_byte_ready {i : Instr} {v : Byte} {m : Mode} {s : State} {d : Display} (hidle : s.inProgress = false)
    (hsucceed : s.nextSucceed 8) (hready : s.displayReady d) (hexec : exec i s = exec (.writeByte v m) s) :
    ∃ t, exec i s = .next t ∧ t.display = some (d.byte m v) ∧ t.enableIsLow := by
  obtain ⟨hd, hfour, hlow⟩ := hready
  obtain ⟨t, ht, hdisplay, hlow', -⟩ :=
    exec_sending hidle hsucceed hd hlow (hexec.trans (exec_writeByte s v m)) (Nat.le_refl 8)
  exact ⟨t, ht, hdisplay.trans (congrArg some (strobes_bytePulses m v hfour)), hlow'⟩

/-- Settles O51. -/
theorem characterBytesAreStoredAtTheCounter : Obligations.CharacterBytesAreStoredAtTheCounter := by
  intro v s d hidle hsucceed hready i hi
  have hexec : exec i s = exec (.writeByte v .character) s := by
    rcases List.mem_pair.mp hi with rfl | rfl
    · rfl
    · rfl
  obtain ⟨t, ht, hdisplay, hlow⟩ := exec_byte_ready hidle hsucceed hready hexec
  refine ⟨t, d.data v, ht, ⟨hdisplay, (d.dataByte_keeps (some v)).1.trans hready.2.1, hlow⟩, d.dataByte_changes (some v),
    d.dataByte_offset (some v), fun a h => ?_, fun a h => ?_, fun h => ?_, fun h => ?_, fun h => ?_⟩
  · have hdata : d.data v = _ := d.dataByte_at_ddram (some v) h
    refine ⟨by rw [hdata], d.dataByte_cells_ddram (some v) h, fun hno => ?_, fun hinc => ?_, fun hinc => ?_⟩
    · rw [hdata, if_neg (by simp [hno])]
    · rw [hdata]; exact d.advance_ddram h hinc
    · rw [hdata, d.advance_of_not_increment hinc, h]; rfl
  · have hdata : d.data v = _ := d.dataByte_at_cgram (some v) h
    obtain ⟨hsame, hother⟩ := d.dataByte_cells_cgram (some v) h
    refine ⟨by rw [hdata], hsame, hother, fun hinc => ?_, fun hinc => ?_⟩
    · rw [hdata]; exact d.advance_cgram h hinc
    · rw [hdata, d.advance_of_not_increment hinc, h]; rfl
  · have hdata : d.data v = _ := d.dataByte_in_ddram (some v) h
    rw [hdata]; exact ⟨rfl, rfl, rfl⟩
  · have hdata : d.data v = _ := d.dataByte_in_cgram (some v) h
    rw [hdata]; exact ⟨rfl, rfl, rfl⟩
  · have hdata : d.data v = _ := d.dataByte_anywhere (some v) h
    rw [hdata]; exact ⟨rfl, rfl, h⟩

/-- Settles O52: each row is the WRITE_BYTE of its command byte, whose bits select its effect. -/
theorem commandRowsActOnTheController : Obligations.CommandRowsActOnTheController := by
  intro slot s d hidle hsucceed hready
  have hrow {i : Instr} {d' : Display} (b : Byte) (hexec : exec i s = exec (.writeByte b .command) s)
      (hd' : d.command b = d') : ∃ t, exec i s = .next t ∧ t.display = some d' := by
    obtain ⟨t, ht, hdisplay, -⟩ := exec_byte_ready hidle hsucceed hready hexec
    exact ⟨t, ht, hd' ▸ hdisplay⟩
  have hfour := hready.2.1
  simp only [List.forall_mem_cons]
  exact ⟨hrow 0x80 rfl rfl, hrow 0xC0 rfl rfl, hrow 0x94 rfl rfl, hrow 0xD4 rfl rfl,
    hrow (glyphCommand slot) rfl (command_glyphCommand slot d), hrow 0x01 rfl rfl, hrow 0x06 rfl rfl, hrow 0x0C rfl rfl,
    hrow 0x28 rfl (hfour ▸ rfl), hrow 0x33 rfl rfl, hrow 0x32 rfl rfl, fun _ h => nomatch h⟩

/-! Nibbles. -/

theorem lowNibble_eq_ofNat (v : Byte) : lowNibble v = BitVec.ofNat 4 v.toNat :=
  BitVec.eq_of_toNat_eq (by rw [toNat_lowNibble, BitVec.toNat_ofNat])

theorem highNibble_eq_ofNat (v : Byte) : highNibble v = BitVec.ofNat 4 (v.toNat / 16) :=
  BitVec.eq_of_toNat_eq (by have := v.isLt; rw [toNat_highNibble, BitVec.toNat_ofNat]; omega)

/-- WRITE_NIBBLE at a known controller with the enable line low is one strobe. -/
theorem exec_writeNibble_strobe {n : Byte} {m : Mode} {s : State} {d : Display} (hidle : s.inProgress = false)
    (hsucceed : s.nextSucceed 4) (hn : n.toNat < 16) (hd : s.display = some d) (hlow : s.enableIsLow) :
    ∃ t, exec (.writeNibble n m) s = .next t ∧ t.enableIsLow ∧
      t.display = some (d.strobe (lowNibble n) (decide (m = .character))) := by
  have hexec : exec (.writeNibble n m) s = accept none (Job.drive (.sending [(lowNibble n, m)])).run s :=
    (exec_writeNibble s n m).trans (by rw [nibblePrecondition_eq_none hn])
  obtain ⟨t, ht, hdisplay, hlow', -⟩ := exec_sending hidle hsucceed hd hlow hexec (Nat.le_refl 4)
  exact ⟨t, ht, hlow', hdisplay⟩

/-- The byte that a second half of the first one's mode completes. -/
theorem Display.strobe_completes (n : Nibble) (m : Mode) {d : Display} {hi : Nibble}
    (h : d.iface = .fourHalf hi (decide (m = .character))) :
    d.strobe n (decide (m = .character)) = Display.byte m (hi ++ n) { d with iface := .four } := by
  rw [Display.strobe_fourHalf n _ h, Display.lowerHalf_same]
  cases m <;> rfl

/-- After a completed byte the controller is between two bytes, but for a function set with upper half 3. -/
theorem Display.byte_iface {m : Mode} {hi : Nibble} (n : Nibble) {d : Display} (h : d.iface = .four)
    (hm : m = .character ∨ hi ≠ 3) : (d.byte m (hi ++ n)).iface = .four := by
  cases m with
  | character => exact (d.dataByte_keeps _).1.trans h
  | command =>
    have hhi : hi ≠ 3 := hm.resolve_left (by decide)
    rw [Display.byte, command_iface_of_four _ h, if_neg (by rwa [highNibble_append])]

/-- Settles O53. -/
theorem loneNibbleShiftsThePairing : Obligations.LoneNibbleShiftsThePairing := by
  intro n m s d hidle hsucceed hn hd hlow low rs
  obtain ⟨t, ht, hlow', hdisplay⟩ := exec_writeNibble_strobe (m := m) hidle hsucceed hn hd hlow
  rw [lowNibble_eq_ofNat] at hdisplay
  refine ⟨t, ht, hlow', fun h => ?_, fun hi h => ?_, fun hi other h hm hother => ?_⟩
  · rw [hdisplay, Display.strobe_four _ _ h]
  · rw [hdisplay, Display.strobe_completes _ m h]
    cases m <;> rfl
  · refine ⟨_, hdisplay, ?_, hlow'⟩
    by_cases hhi : hi = 3
    · obtain rfl : other = rs := hother.resolve_right (absurd hhi)
      rw [Display.strobe_completes _ m h]
      exact Display.byte_iface _ rfl hm
    · rw [Display.strobe_fourHalf _ _ h]
      exact lowerHalf_iface _ _ _ _ hhi

/-- Settles O54. -/
theorem aStrayNibbleSplitsTheNextByte : Obligations.AStrayNibbleSplitsTheNextByte := by
  intro v m hi s d hidle hsucceed hd hlow hhalf hm stray d4
  obtain ⟨t, ht, hdisplay, -⟩ := exec_sending hidle hsucceed hd hlow (exec_writeByte s v m) (Nat.le_refl 8)
  have hstrobes : strobes (bytePulses m v) d =
      (d.strobe (highNibble v) (decide (m = .character))).strobe (lowNibble v) (decide (m = .character)) := rfl
  have hlowNibble : lowNibble v = BitVec.ofNat 4 (v.toNat % 16) :=
    BitVec.eq_of_toNat_eq (by rw [toNat_lowNibble, BitVec.toNat_ofNat]; omega)
  refine ⟨t, ht, ?_⟩
  rw [hdisplay, hstrobes, Display.strobe_completes _ m hhalf, Display.strobe_four _ _ (Display.byte_iface _ rfl hm),
    highNibble_eq_ofNat, hlowNibble]
  cases m <;> rfl

/-! The 8-bit interface. -/

/-- A whole command, by its upper half. -/
theorem wholeCommand_cases (n : Nibble) (d : Display) :
    (8 ≤ n.toNat → d.wholeCommand n = { d with counter := some (.ddram none) }) ∧
    (4 ≤ n.toNat → n.toNat < 8 → d.wholeCommand n = { d with counter := some (.cgram none) }) ∧
    (n.toNat = 3 → d.wholeCommand n = { d with iface := .eight, twoLines := none, fiveByTen := none }) ∧
    (n.toNat = 2 → d.wholeCommand n = { d with iface := .four, twoLines := none, fiveByTen := none }) ∧
    (n.toNat = 1 → d.wholeCommand n = { d with counter := d.counter.map Pointer.forget, offset := none }) ∧
    (n.toNat = 0 → (d.wholeCommand n).iface = d.iface) := by
  have hbits : ∀ n : Nibble, (8 ≤ n.toNat → n.getLsbD 3 = true) ∧
      (4 ≤ n.toNat → n.toNat < 8 → n.getLsbD 3 = false ∧ n.getLsbD 2 = true) := by decide
  obtain ⟨h8, h4⟩ := hbits n
  have hnibble {k : Nibble} (h : n.toNat = k.toNat) : n = k := BitVec.eq_of_toNat_eq h
  refine ⟨fun h => if_pos (h8 h), fun hlow hhigh => ?_, fun h => ?_, fun h => ?_, fun h => ?_, fun h => ?_⟩
  · obtain ⟨hbit3, hbit2⟩ := h4 hlow hhigh
    rw [Display.wholeCommand, if_neg (by rw [hbit3]; decide), if_pos hbit2]
  · rw [hnibble (k := 3) h]; rfl
  · rw [hnibble (k := 2) h]; rfl
  · rw [hnibble (k := 1) h]; rfl
  · rw [hnibble (k := 0) h]; rfl

/-- Settles O57. -/
theorem strobesInTheEightBitInterface : Obligations.StrobesInTheEightBitInterface := by
  intro n m s d hidle hsucceed hn hd hlow height
  obtain ⟨t, ht, hlow', hdisplay⟩ := exec_writeNibble_strobe (m := m) hidle hsucceed hn hd hlow
  rw [Display.strobe_eight _ _ height] at hdisplay
  refine ⟨t, _, ht, hdisplay, hlow', ?_, ?_⟩
  · rintro rfl
    have hto : (lowNibble n).toNat = n.toNat := (toNat_lowNibble n).trans (Nat.mod_eq_of_lt hn)
    obtain ⟨h8, h4, h3, h2, h1, h0⟩ := wholeCommand_cases (lowNibble n) d
    rw [hto] at h8 h4 h3 h2 h1 h0
    exact ⟨d.wholeCommand_cgram _, h8, h4, fun h => (h3 h).trans (by rw [← height]), h2, h1, fun h => (h0 h).trans height⟩
  · rintro rfl
    have hcgram {a} (h : d.counter = some (.ddram (some a))) : (d.dataByte none).cgram = d.cgram := by
      rw [d.dataByte_at_ddram none h]
    have hddram {a} (h : d.counter = some (.cgram (some a))) : (d.dataByte none).ddram = d.ddram := by
      rw [d.dataByte_at_cgram none h]
    exact ⟨d.dataByte_changes none, d.dataByte_offset none,
      fun a h hexists => ⟨hcgram h, d.dataByte_cells_ddram none h hexists⟩,
      fun a h => ⟨hddram h, d.dataByte_cells_cgram none h⟩⟩

end Sys2Proof.Machine

/-! What one delivered byte makes of a known controller (60_exceptions.md R191, R192, R196; Log 12, 24, 29). -/

namespace Sys2Proof.Machine

/-! The enable line. -/

section OnWrite

variable {old b : Byte} (d : Display)

theorem Display.onWrite_of_reading (hlow : b.getLsbD 2 = false) (hhigh : old.getLsbD 2 = true) (hread : b.getLsbD 1 = true) :
    d.onWrite (some old) b = Display.unknown (.unsynced 0) := by
  have hno : ¬ b.getLsbD 2 = true := Bool.eq_false_iff.mp hlow
  simp only [Display.onWrite, if_neg hno, if_pos hhigh, if_pos hread]

theorem Display.onWrite_of_edge (hlow : b.getLsbD 2 = false) (hhigh : old.getLsbD 2 = true) (hwrite : b.getLsbD 1 = false) :
    d.onWrite (some old) b = d.strobe (highNibble b) (b.getLsbD 0) := by
  have hno : ¬ b.getLsbD 2 = true := Bool.eq_false_iff.mp hlow
  have hread : ¬ b.getLsbD 1 = true := Bool.eq_false_iff.mp hwrite
  simp only [Display.onWrite, if_neg hno, if_pos hhigh, if_neg hread, highNibble]

end OnWrite

/-! Cells on which two memories agree. -/

theorem Memory.mem_of_read {m : Memory} {a : Nat} {v : Byte} (h : m.read a = some v) : (a, v) ∈ m := by
  induction m with
  | nil => cases h
  | cons kv m ih =>
    obtain ⟨k, w⟩ := kv
    rw [Memory.read] at h
    split at h
    · next hk => subst hk; cases h; exact List.mem_cons_self
    · exact List.mem_cons_of_mem _ (ih h)

theorem Memory.le_of_mem {bound : Nat} {m : Memory} {a : Nat} {v : Byte} : ∀ {least : Nat},
    Memory.risingFrom bound least m = true → (a, v) ∈ m → least ≤ a := by
  induction m with
  | nil => exact fun _ h => nomatch h
  | cons kv m ih =>
    obtain ⟨k, w⟩ := kv
    intro least hm h
    simp only [Memory.risingFrom, Bool.and_eq_true, decide_eq_true_eq] at hm
    rcases List.mem_cons.mp h with h | h
    · cases h; exact hm.1.1
    · exact (Nat.le_succ_of_le hm.1.1).trans (ih hm.2 h)

/-- In a canonical memory a cell is read at its address. -/
theorem Memory.read_of_mem {bound : Nat} {m : Memory} {a : Nat} {v : Byte} : ∀ {least : Nat},
    Memory.risingFrom bound least m = true → (a, v) ∈ m → m.read a = some v := by
  induction m with
  | nil => exact fun _ h => nomatch h
  | cons kv m ih =>
    obtain ⟨k, w⟩ := kv
    intro least hm h
    simp only [Memory.risingFrom, Bool.and_eq_true, decide_eq_true_eq] at hm
    rw [Memory.read]
    rcases List.mem_cons.mp h with h | h
    · cases h; exact if_pos rfl
    · have hlt := Memory.le_of_mem hm.2 h
      rw [if_neg (by omega), ih hm.2 h]

theorem Memory.read_agree {bound : Nat} {m1 m2 : Memory} (hm : m1.wf bound = true) {a : Nat} {v : Byte}
    (h : (m1.agree m2).read a = some v) : m1.read a = some v ∧ m2.read a = some v := by
  obtain ⟨hmem, hread⟩ := Memory.mem_agree (Memory.mem_of_read h)
  exact ⟨Memory.read_of_mem hm hmem, hread⟩

/-- Settles O55. -/
theorem loweringTheEnableLineCommitsTheNibble : Obligations.LoweringTheEnableLineCommitsTheNibble := by
  intro b old s d hlines hd hinv t n rs d4
  have hdisplay : t.display = some (d.onWrite (some old) b) := by
    rw [show t.display = s.display.map (Display.onWrite s.lines b) from rfl, hd, hlines]; rfl
  refine ⟨rfl, fun h => ?_, fun hlow hhigh hread => ?_, fun hlow hhigh hwrite => ?_⟩
  · rw [hdisplay, d.onWrite_of_no_edge h]
  · rw [hdisplay, d.onWrite_of_reading hlow hhigh hread]
  replace hdisplay : t.display = some (d.strobe n rs) := by
    rw [hdisplay, d.onWrite_of_edge hlow hhigh hwrite, highNibble_eq_ofNat]
  refine ⟨fun h => ?_, fun hi h => ?_, fun hi h => ⟨_, hdisplay, ?_⟩, fun h hrs h3 => ⟨_, hdisplay, ?_⟩,
    fun h hrs h2 => ⟨_, hdisplay, ?_⟩, fun k h hrs h3 => ⟨_, hdisplay, ?_⟩, fun k h hother => ⟨_, hdisplay, ?_⟩⟩
  · rw [hdisplay, Display.strobe_four _ _ h]
  · rw [hdisplay, Display.strobe_fourHalf _ _ h, Display.lowerHalf_same]
  · have hstrobe : d.strobe n rs = _ := (Display.strobe_fourHalf n rs h).trans (Display.lowerHalf_other hi n rs d)
    have h4 : d4.inv := Display.inv_of_memories hinv rfl rfl
    obtain ⟨hddram, hcgram, -⟩ := Display.command_inv (hi ++ n) h4
    refine ⟨fun hhi => ?_, fun a v hread => ?_, fun a v hread => ?_⟩
    · rw [Display.strobe_fourHalf _ _ h]
      exact lowerHalf_iface _ _ _ _ hhi
    · rw [hstrobe] at hread; exact Memory.read_agree hddram hread
    · rw [hstrobe] at hread; exact Memory.read_agree hcgram hread
  · rw [hrs, h3, Display.strobe_eight 3 false h]
    exact ⟨rfl, rfl, rfl⟩
  · rw [hrs, h2, Display.strobe_eight 2 false h]
    exact ⟨rfl, rfl, rfl⟩
  · rw [Display.strobe_unsynced n rs h, strobeUnsynced, if_pos ⟨h3, hrs⟩, ← ite_not]
    exact (apply_ite Display.iface ..).trans (if_congr (by omega) rfl rfl)
  · have hno : ¬ (n = 3 ∧ rs = false) := by
      rintro ⟨h3, hrs⟩
      rcases hother with htrue | hne
      · cases htrue.symm.trans hrs
      · exact hne h3
    rw [Display.strobe_unsynced n rs h, strobeUnsynced, if_neg hno]
    rfl

end Sys2Proof.Machine
